-- ==== Sys2Proof/Word.lean ====
section
/-! DEFINITION. The words of the crypto-oracle core: bytes, 32-bit words, byte strings of a fixed length
(00_scope.md rule R11), and their plainest arithmetic. Everything of the spec's that a test could show wrong
stands in files under Machine/ and in Decode.lean. -/

namespace Sys2Proof

/-- A byte: an integer 0 to 255, bit 7 the most significant (rule R11). -/
abbrev Byte := BitVec 8

/-- A 32-bit word of SM4, of the AES tables and of one half of a DES block. -/
abbrev Word32 := BitVec 32

/-- A byte string of length `n`: `B[0]` is the byte received or transmitted first (rule R11). -/
abbrev Bytes (n : Nat) := Vector Byte n

/-- The 16-byte block of AES and SM4 (rules R8, R9, R150). -/
abbrev Block := Bytes 16

/-- `0^n`, the string of `n` zero bytes (rule R11). -/
def zeroBytes (n : Nat) : Bytes n := Vector.ofFn fun _ => 0#8

/-- `A xor B` on byte strings of equal length, bytewise (rule R11). -/
def xorBytes {n : Nat} (a b : Bytes n) : Bytes n := Vector.ofFn fun i => a[i] ^^^ b[i]

end Sys2Proof
end

