-- ==== Sys2Proof/Config.lean ====
section
/-! DEFINITION. What is fixed for one device: the constants of 00_scope.md rules R8 and R9, the open parameters of
rule R10 as one record `Config`, and the values that nothing in the spec constrains, as constants without a body. -/

namespace Sys2Proof

/-- `SCR_CAP`: the capacity of the scratch buffer and the clip of a declared length (rule R8). -/
def Config.scrCap : Nat := 168

/-- `IN_OFF`: the scratch offset of received input (rule R9). -/
def Config.inOff : Nat := 0

/-- `OUT_OFF`: the scratch offset of the output of a fixed-block command (rule R9). -/
def Config.outOff : Nat := 84

/-- The opcodes of the 45 commands of the default `OpcodeMap`, in the order of the table (rule R9, 30_encoding.md
rule R100). -/
def commandOpcodes : List Byte :=
  [0x10#8, 0x11#8, 0x12#8, 0x13#8, 0x14#8, 0x15#8, 0x16#8, 0x18#8, 0x19#8, 0x1A#8, 0x1B#8, 0x1C#8, 0x1D#8, 0x1E#8, 0x1F#8] ++
  [0x20#8, 0x21#8, 0x22#8, 0x25#8, 0x26#8, 0x28#8, 0x2A#8, 0x30#8, 0x31#8, 0x32#8, 0x3C#8, 0x3D#8, 0x3E#8, 0x3F#8] ++
  [0x40#8, 0x41#8, 0x42#8, 0x45#8, 0x46#8, 0x50#8, 0x51#8, 0x52#8, 0x5C#8] ++
  [0x60#8, 0x61#8, 0x6C#8, 0x6F#8, 0x70#8, 0x71#8, 0x72#8]

/-- The default of `FI_OPCODES`: 0xE0 to 0xEF (30_encoding.md rule R107). -/
def defaultFiOpcodes : List Byte :=
  [0xE0#8, 0xE1#8, 0xE2#8, 0xE3#8, 0xE4#8, 0xE5#8, 0xE6#8, 0xE7#8] ++
  [0xE8#8, 0xE9#8, 0xEA#8, 0xEB#8, 0xEC#8, 0xED#8, 0xEE#8, 0xEF#8]

/-- The default of `EXT_OPCODES`: none (30_encoding.md rule R108). -/
def defaultExtOpcodes : List Byte := []

/-- `RsaKey` and `RSA_K`: the RSA private key of the configuration (rule R10; 46_rsa.md rule R300). All values are
non-negative integers of unbounded size (rule R301); `k` is the number of bytes of `n`. -/
structure RsaKey where
  n : Nat
  d : Nat
  p : Nat
  q : Nat
  dp : Nat
  dq : Nat
  qinv : Nat
  k : Nat
  deriving DecidableEq, Repr, Inhabited

/-- The open parameters of rule R10: the source says that each exists and gives no value. A claim that quantifies over
every state quantifies over every configuration, since the state carries the configuration of its device. `OpcodeMap` is
not here: it is the default map, which rule R9 lets a model take as a constant (notes/assumptions/5.md). -/
structure Config where
  /-- `DEF_KEY_DES`. -/
  defKeyDes : Bytes 8
  /-- `DEF_KEY_TDES`. -/
  defKeyTdes : Bytes 24
  /-- `DEF_KEY_AES128`. -/
  defKeyAes128 : Bytes 16
  /-- `DEF_KEY_AES256`. -/
  defKeyAes256 : Bytes 32
  /-- `DEF_KEY_SM4`. -/
  defKeySm4 : Bytes 16
  /-- `DEF_PWD`. -/
  defPwd : Bytes 4
  /-- `RESP_OK`, the success code, also the "always-success" code. -/
  respOk : Bytes 2
  /-- `RESP_FAIL`, the failure code. -/
  respFail : Bytes 2
  /-- `RESP_SECRET`, the secret marker. -/
  respSecret : Bytes 8
  /-- `RESP_BADCMD`, the bad-command string, of length `BADCMD_LEN`. -/
  respBadcmd : List Byte
  /-- `BOOT_LOOP_EXPECT`, the expected final counter of the boot-time busy loop. -/
  bootLoopExpect : Nat
  /-- `RD_MAX`, the largest number of no-op cycles of one random-delay point. -/
  rdMax : Nat
  /-- `MA_OFFSET`, the fixed offset of the misaligned variant, in no-op cycles. -/
  maOffset : Nat
  /-- `CHK_GAP`, the gap between the two checks of the double password check, in no-op cycles. -/
  chkGap : Nat
  /-- `HW_PRESENT`: whether the accelerator is present at build time. -/
  hwPresent : Bool
  /-- `RsaKey`, `RSA_K`. -/
  rsa : RsaKey
  /-- `FI_OPCODES`, the opcodes of the fault-injection catalogue, a set of any size (90_conflicts.md C8). -/
  fiOpcodes : List Byte
  /-- `EXT_OPCODES`, the opcodes of external collaborators. -/
  extOpcodes : List Byte
  deriving DecidableEq, Repr, Inhabited

/-- A configuration of which nothing can be proved. FREE VALUE (notes/assumptions/1.md): the spec gives the parameters of
rule R10 no values. -/
opaque Config.unspecified : Config

/-- The configuration of the device that `State.reset` is a state of: free, but for the two sets of opcodes that have a
default, which stand at it (30_encoding.md rules R107 and R108; notes/assumptions/18.md). -/
def Config.device : Config :=
  { Config.unspecified with fiOpcodes := defaultFiOpcodes, extOpcodes := defaultExtOpcodes }

/-- The level of the strap pin when the device of `State.reset` was powered up (10_state.md rules R37, R44). FREE VALUE
(notes/assumptions/2.md). -/
opaque Config.strapAtPowerUp : Bool

/-- The values that random draws take where the environment has not fixed them: `freeDraw j` is the `j`-th draw since
reset, before it is reduced to the set drawn from (00_scope.md rule R13, 10_state.md rules R29 and R30). FREE VALUE
(notes/assumptions/3.md). -/
opaque Config.freeDraw : Nat → Nat

end Sys2Proof
end

