-- ==== Sys2Proof/Syntax.lean ====
section
/-! DEFINITION. The command set (00_scope.md rule R2; 30_encoding.md rules R90 and R100): one constructor per row of
spec/opcode_table.json, in the table's order, with the payload that the row's frame format gives it. -/

namespace Sys2Proof

/-- A command with its payload. A fixed-format command carries its 4, 8, 16, 24 or 32 payload bytes; a variable frame
(format `FV`) carries the declared length `len` and the payload bytes received for it, `min(len, 168)` of them;
`unknown` carries an opcode byte that is in no row of the table. -/
inductive Instr where
  | aes128Enc (payload : Bytes 16)
  | aes128Dec (payload : Bytes 16)
  | aes128Key (payload : Bytes 16)
  | aes128EncTbl (payload : Bytes 16)
  | aes128DecTbl (payload : Bytes 16)
  | aes128EncHw (payload : Bytes 16)
  | aes128DecHw (payload : Bytes 16)
  | aes128EncMt (payload : Bytes 16)
  | aes128EncMtp (payload : Bytes 16)
  | aes128EncMb (payload : Bytes 16)
  | aes128EncMbx (payload : Bytes 32)
  | aes128EncRd (payload : Bytes 16)
  | aes128EncRs (payload : Bytes 16)
  | aes128EncMa (payload : Bytes 16)
  | aes128EncDc (payload : Bytes 16)
  | aes256Enc (payload : Bytes 16)
  | aes256Dec (payload : Bytes 16)
  | aes256Key (payload : Bytes 32)
  | aes256EncHw (payload : Bytes 16)
  | aes256DecHw (payload : Bytes 16)
  | aes256EncMt (payload : Bytes 16)
  | aes256EncMb (payload : Bytes 16)
  | desEnc (payload : Bytes 8)
  | desDec (payload : Bytes 8)
  | desKey (payload : Bytes 8)
  | desEncRd (payload : Bytes 8)
  | desEncRs (payload : Bytes 8)
  | desEncMa (payload : Bytes 8)
  | desEncDc (payload : Bytes 8)
  | tdesEnc (payload : Bytes 8)
  | tdesDec (payload : Bytes 8)
  | tdesKey (payload : Bytes 24)
  | tdesEncHw (payload : Bytes 8)
  | tdesDecHw (payload : Bytes 8)
  | sm4Enc (payload : Bytes 16)
  | sm4Dec (payload : Bytes 16)
  | sm4Key (payload : Bytes 16)
  | sm4EncRd (payload : Bytes 16)
  | rsacrt (len : BitVec 16) (payload : List Byte)
  | rsasfm (len : BitVec 16) (payload : List Byte)
  | rsasfmRd (len : BitVec 16) (payload : List Byte)
  | rsacrtDc (len : BitVec 16) (payload : List Byte)
  | pwdChk1 (payload : Bytes 4)
  | pwdChk2 (payload : Bytes 4)
  | pwdSet (payload : Bytes 4)
  | fi0
  | fi1
  | fi2
  | fi3
  | fi4
  | fi5
  | fi6
  | fi7
  | fi8
  | fi9
  | fi10
  | fi11
  | fi12
  | fi13
  | fi14
  | fi15
  | unknown (op : Byte)
  deriving DecidableEq, Repr

end Sys2Proof
end

