-- ==== Sys2Proof/WellFormed.lean ====
section
/-! DEFINITION. Which commands are well formed (30_encoding.md rules R90, R96, R102) and which configurations are
(00_scope.md rule R10, 46_rsa.md rule R300, 93_implementation_defined.md U11). -/

namespace Sys2Proof

/-- The payload of a variable frame holds exactly `min(len, 168)` bytes (rules R90, R96). -/
def varPayloadOk (len : BitVec 16) (payload : List Byte) : Bool :=
  payload.length == min len.toNat Config.scrCap

/-- The unknown opcodes of the default map, range by range as rule R102 lists them. -/
def unknownRanges : List (Nat × Nat) :=
  [(0x00, 0x0F), (0x17, 0x17), (0x23, 0x24), (0x27, 0x27), (0x29, 0x29), (0x2B, 0x2F), (0x33, 0x3B), (0x43, 0x44)] ++
  [(0x47, 0x4F), (0x53, 0x5B), (0x5D, 0x5F), (0x62, 0x6B), (0x6D, 0x6E), (0x73, 0xDF), (0xF0, 0xFF)]

/-- Whether an opcode byte is one of the 195 unknown opcodes of rule R102. -/
def isUnknownOpcode (op : Byte) : Bool :=
  unknownRanges.any fun r => r.1 ≤ op.toNat && op.toNat ≤ r.2

/-- Well-formedness of a command. The fixed formats carry their payload length in their type; a variable frame carries
exactly the bytes that its declared length asks for; `unknown` carries an opcode outside the map. -/
def Instr.wf : Instr → Bool
  | .rsacrt len payload => varPayloadOk len payload
  | .rsasfm len payload => varPayloadOk len payload
  | .rsasfmRd len payload => varPayloadOk len payload
  | .rsacrtDc len payload => varPayloadOk len payload
  | .unknown op => isUnknownOpcode op
  | .aes128Enc _ | .aes128Dec _ | .aes128Key _ | .aes128EncTbl _ | .aes128DecTbl _ | .aes128EncHw _ | .aes128DecHw _
  | .aes128EncMt _ | .aes128EncMtp _ | .aes128EncMb _ | .aes128EncMbx _ | .aes128EncRd _ | .aes128EncRs _
  | .aes128EncMa _ | .aes128EncDc _ | .aes256Enc _ | .aes256Dec _ | .aes256Key _ | .aes256EncHw _ | .aes256DecHw _
  | .aes256EncMt _ | .aes256EncMb _ | .desEnc _ | .desDec _ | .desKey _ | .desEncRd _ | .desEncRs _ | .desEncMa _
  | .desEncDc _ | .tdesEnc _ | .tdesDec _ | .tdesKey _ | .tdesEncHw _ | .tdesDecHw _ | .sm4Enc _ | .sm4Dec _
  | .sm4Key _ | .sm4EncRd _ | .pwdChk1 _ | .pwdChk2 _ | .pwdSet _
  | .fi0 | .fi1 | .fi2 | .fi3 | .fi4 | .fi5 | .fi6 | .fi7 | .fi8 | .fi9 | .fi10 | .fi11 | .fi12 | .fi13 | .fi14
  | .fi15 => true

/-- The RSA key record is well formed (46_rsa.md rule R300). -/
structure RsaKey.WF (key : RsaKey) : Prop where
  p_prime : Nat.Prime key.p
  q_prime : Nat.Prime key.q
  p_odd : key.p % 2 = 1
  q_odd : key.q % 2 = 1
  p_ne_q : key.p ≠ key.q
  n_eq : key.n = key.p * key.q
  d_pos : 1 ≤ key.d
  d_coprime : Nat.Coprime key.d ((key.p - 1) * (key.q - 1))
  dp_eq : key.dp = key.d % (key.p - 1)
  dq_eq : key.dq = key.d % (key.q - 1)
  qinv_lt : key.qinv < key.p
  qinv_eq : key.qinv * key.q % key.p = 1
  k_low : 256 ^ (key.k - 1) ≤ key.n
  k_high : key.n < 256 ^ key.k
  k_pos : 1 ≤ key.k
  k_le : key.k ≤ Config.scrCap

/-- The conditions that the spec sets on the open parameters: `RESP_OK` differs from `RESP_FAIL`, the bad-command string
is not empty (rule R10), the RSA key is well formed (rule R300), and no opcode of a command is in `FI_OPCODES` or
`EXT_OPCODES` (30_encoding.md rule R99). -/
structure Config.WF (c : Config) : Prop where
  ok_ne_fail : c.respOk ≠ c.respFail
  badcmd_nonempty : c.respBadcmd ≠ []
  rsa_wf : c.rsa.WF
  fi_disjoint : ∀ op ∈ c.fiOpcodes, op ∉ commandOpcodes
  ext_disjoint : ∀ op ∈ c.extOpcodes, op ∉ commandOpcodes

end Sys2Proof
end

