-- ==== Sys2Proof/Decode.lean ====
section
/-! DEFINITION. Decoding a frame from the bytes that wait in the transport, and encoding a command as its frame
(30_encoding.md rules R90 to R97, the opcode map of rule R100). Decoding is total: it gives a command and the bytes
after its frame, or says that the frame is not complete yet. -/

namespace Sys2Proof

/-- What the decoder makes of the waiting bytes. -/
inductive DecodeResult where
  /-- The first frame is complete: its command and the bytes that follow the frame. -/
  | ok (i : Instr) (rest : List Byte)
  /-- The waiting bytes end inside the first frame, or there are none (93_implementation_defined.md U7). -/
  | incomplete
  deriving DecidableEq, Repr

/-- The first `n` bytes and the bytes after them, if there are `n`. -/
def takeBytes (n : Nat) (bs : List Byte) : Option (Bytes n × List Byte) :=
  if h : n ≤ bs.length then
    some (⟨(bs.take n).toArray, by simp [h]⟩, bs.drop n)
  else
    none

/-- A frame of a fixed format: the `n` bytes after the opcode are the payload (rules R90, R95). -/
def fixedFrame {n : Nat} (make : Bytes n → Instr) (bs : List Byte) : DecodeResult :=
  match takeBytes n bs with
  | some (payload, rest) => .ok (make payload) rest
  | none => .incomplete

/-- `L = 256*hi + lo`: the length field, high byte first (rules R64 and R96). -/
def lengthField (hi lo : Byte) : BitVec 16 := hi ++ lo

/-- A variable frame: two length bytes and `min(L, 168)` payload bytes, the count clipped to the capacity of the scratch
buffer; what follows them belongs to the next frame (rules R90, R96, R97). -/
def varFrame (make : BitVec 16 → List Byte → Instr) : List Byte → DecodeResult
  | hi :: lo :: bs =>
    let len := lengthField hi lo
    let count := min len.toNat Config.scrCap
    if count ≤ bs.length then .ok (make len (bs.take count)) (bs.drop count) else .incomplete
  | _ => .incomplete

/-- The frame of an opcode of the default map of rule R100, with the payload assembly of its format. Every other opcode
takes no payload, whichever set it is in (rules R102, R107, R108); which of them are reserved and which unknown, as
`Decode(op)` of rule R92 has it, is the configuration's, and is decided where the command runs. -/
def decodeFrame (op : Byte) (rest : List Byte) : DecodeResult :=
  match op with
  | 0x10#8 => fixedFrame .aes128Enc rest
  | 0x11#8 => fixedFrame .aes128Dec rest
  | 0x12#8 => fixedFrame .aes128Key rest
  | 0x13#8 => fixedFrame .aes128EncTbl rest
  | 0x14#8 => fixedFrame .aes128DecTbl rest
  | 0x15#8 => fixedFrame .aes128EncHw rest
  | 0x16#8 => fixedFrame .aes128DecHw rest
  | 0x18#8 => fixedFrame .aes128EncMt rest
  | 0x19#8 => fixedFrame .aes128EncMtp rest
  | 0x1A#8 => fixedFrame .aes128EncMb rest
  | 0x1B#8 => fixedFrame .aes128EncMbx rest
  | 0x1C#8 => fixedFrame .aes128EncRd rest
  | 0x1D#8 => fixedFrame .aes128EncRs rest
  | 0x1E#8 => fixedFrame .aes128EncMa rest
  | 0x1F#8 => fixedFrame .aes128EncDc rest
  | 0x20#8 => fixedFrame .aes256Enc rest
  | 0x21#8 => fixedFrame .aes256Dec rest
  | 0x22#8 => fixedFrame .aes256Key rest
  | 0x25#8 => fixedFrame .aes256EncHw rest
  | 0x26#8 => fixedFrame .aes256DecHw rest
  | 0x28#8 => fixedFrame .aes256EncMt rest
  | 0x2A#8 => fixedFrame .aes256EncMb rest
  | 0x30#8 => fixedFrame .desEnc rest
  | 0x31#8 => fixedFrame .desDec rest
  | 0x32#8 => fixedFrame .desKey rest
  | 0x3C#8 => fixedFrame .desEncRd rest
  | 0x3D#8 => fixedFrame .desEncRs rest
  | 0x3E#8 => fixedFrame .desEncMa rest
  | 0x3F#8 => fixedFrame .desEncDc rest
  | 0x40#8 => fixedFrame .tdesEnc rest
  | 0x41#8 => fixedFrame .tdesDec rest
  | 0x42#8 => fixedFrame .tdesKey rest
  | 0x45#8 => fixedFrame .tdesEncHw rest
  | 0x46#8 => fixedFrame .tdesDecHw rest
  | 0x50#8 => fixedFrame .sm4Enc rest
  | 0x51#8 => fixedFrame .sm4Dec rest
  | 0x52#8 => fixedFrame .sm4Key rest
  | 0x5C#8 => fixedFrame .sm4EncRd rest
  | 0x60#8 => varFrame .rsacrt rest
  | 0x61#8 => varFrame .rsasfm rest
  | 0x6C#8 => varFrame .rsasfmRd rest
  | 0x6F#8 => varFrame .rsacrtDc rest
  | 0x70#8 => fixedFrame .pwdChk1 rest
  | 0x71#8 => fixedFrame .pwdChk2 rest
  | 0x72#8 => fixedFrame .pwdSet rest
  | 0xE0#8 => .ok .fi0 rest
  | 0xE1#8 => .ok .fi1 rest
  | 0xE2#8 => .ok .fi2 rest
  | 0xE3#8 => .ok .fi3 rest
  | 0xE4#8 => .ok .fi4 rest
  | 0xE5#8 => .ok .fi5 rest
  | 0xE6#8 => .ok .fi6 rest
  | 0xE7#8 => .ok .fi7 rest
  | 0xE8#8 => .ok .fi8 rest
  | 0xE9#8 => .ok .fi9 rest
  | 0xEA#8 => .ok .fi10 rest
  | 0xEB#8 => .ok .fi11 rest
  | 0xEC#8 => .ok .fi12 rest
  | 0xED#8 => .ok .fi13 rest
  | 0xEE#8 => .ok .fi14 rest
  | 0xEF#8 => .ok .fi15 rest
  | _ => .ok (.unknown op) rest

/-- The first frame of the waiting bytes. The first byte is the opcode (rule R64); it is decoded as a whole (rule R94)
and decoding reads nothing but the bytes (rule R92). -/
def decode : List Byte → DecodeResult
  | [] => .incomplete
  | op :: rest => decodeFrame op rest

/-- The bytes of a variable frame: opcode, length field high byte first, payload (rule R90). -/
def varBytes (op : Byte) (len : BitVec 16) (payload : List Byte) : List Byte :=
  op :: len.extractLsb' 8 8 :: len.extractLsb' 0 8 :: payload

/-- The frame of a command, as the host sends it (rule R90; opcodes of rule R100). -/
def encode : Instr → List Byte
  | .aes128Enc payload => 0x10#8 :: payload.toList
  | .aes128Dec payload => 0x11#8 :: payload.toList
  | .aes128Key payload => 0x12#8 :: payload.toList
  | .aes128EncTbl payload => 0x13#8 :: payload.toList
  | .aes128DecTbl payload => 0x14#8 :: payload.toList
  | .aes128EncHw payload => 0x15#8 :: payload.toList
  | .aes128DecHw payload => 0x16#8 :: payload.toList
  | .aes128EncMt payload => 0x18#8 :: payload.toList
  | .aes128EncMtp payload => 0x19#8 :: payload.toList
  | .aes128EncMb payload => 0x1A#8 :: payload.toList
  | .aes128EncMbx payload => 0x1B#8 :: payload.toList
  | .aes128EncRd payload => 0x1C#8 :: payload.toList
  | .aes128EncRs payload => 0x1D#8 :: payload.toList
  | .aes128EncMa payload => 0x1E#8 :: payload.toList
  | .aes128EncDc payload => 0x1F#8 :: payload.toList
  | .aes256Enc payload => 0x20#8 :: payload.toList
  | .aes256Dec payload => 0x21#8 :: payload.toList
  | .aes256Key payload => 0x22#8 :: payload.toList
  | .aes256EncHw payload => 0x25#8 :: payload.toList
  | .aes256DecHw payload => 0x26#8 :: payload.toList
  | .aes256EncMt payload => 0x28#8 :: payload.toList
  | .aes256EncMb payload => 0x2A#8 :: payload.toList
  | .desEnc payload => 0x30#8 :: payload.toList
  | .desDec payload => 0x31#8 :: payload.toList
  | .desKey payload => 0x32#8 :: payload.toList
  | .desEncRd payload => 0x3C#8 :: payload.toList
  | .desEncRs payload => 0x3D#8 :: payload.toList
  | .desEncMa payload => 0x3E#8 :: payload.toList
  | .desEncDc payload => 0x3F#8 :: payload.toList
  | .tdesEnc payload => 0x40#8 :: payload.toList
  | .tdesDec payload => 0x41#8 :: payload.toList
  | .tdesKey payload => 0x42#8 :: payload.toList
  | .tdesEncHw payload => 0x45#8 :: payload.toList
  | .tdesDecHw payload => 0x46#8 :: payload.toList
  | .sm4Enc payload => 0x50#8 :: payload.toList
  | .sm4Dec payload => 0x51#8 :: payload.toList
  | .sm4Key payload => 0x52#8 :: payload.toList
  | .sm4EncRd payload => 0x5C#8 :: payload.toList
  | .rsacrt len payload => varBytes 0x60#8 len payload
  | .rsasfm len payload => varBytes 0x61#8 len payload
  | .rsasfmRd len payload => varBytes 0x6C#8 len payload
  | .rsacrtDc len payload => varBytes 0x6F#8 len payload
  | .pwdChk1 payload => 0x70#8 :: payload.toList
  | .pwdChk2 payload => 0x71#8 :: payload.toList
  | .pwdSet payload => 0x72#8 :: payload.toList
  | .fi0 => [0xE0#8]
  | .fi1 => [0xE1#8]
  | .fi2 => [0xE2#8]
  | .fi3 => [0xE3#8]
  | .fi4 => [0xE4#8]
  | .fi5 => [0xE5#8]
  | .fi6 => [0xE6#8]
  | .fi7 => [0xE7#8]
  | .fi8 => [0xE8#8]
  | .fi9 => [0xE9#8]
  | .fi10 => [0xEA#8]
  | .fi11 => [0xEB#8]
  | .fi12 => [0xEC#8]
  | .fi13 => [0xED#8]
  | .fi14 => [0xEE#8]
  | .fi15 => [0xEF#8]
  | .unknown op => [op]

/-- `FrameLen` of rule R93: `1 + n` for a fixed format with `n` payload bytes, `3 + min(L, 168)` for a variable frame,
1 for an unknown opcode. -/
def frameLen : Instr → Nat
  | .aes128Enc _ => 1 + 16
  | .aes128Dec _ => 1 + 16
  | .aes128Key _ => 1 + 16
  | .aes128EncTbl _ => 1 + 16
  | .aes128DecTbl _ => 1 + 16
  | .aes128EncHw _ => 1 + 16
  | .aes128DecHw _ => 1 + 16
  | .aes128EncMt _ => 1 + 16
  | .aes128EncMtp _ => 1 + 16
  | .aes128EncMb _ => 1 + 16
  | .aes128EncMbx _ => 1 + 32
  | .aes128EncRd _ => 1 + 16
  | .aes128EncRs _ => 1 + 16
  | .aes128EncMa _ => 1 + 16
  | .aes128EncDc _ => 1 + 16
  | .aes256Enc _ => 1 + 16
  | .aes256Dec _ => 1 + 16
  | .aes256Key _ => 1 + 32
  | .aes256EncHw _ => 1 + 16
  | .aes256DecHw _ => 1 + 16
  | .aes256EncMt _ => 1 + 16
  | .aes256EncMb _ => 1 + 16
  | .desEnc _ => 1 + 8
  | .desDec _ => 1 + 8
  | .desKey _ => 1 + 8
  | .desEncRd _ => 1 + 8
  | .desEncRs _ => 1 + 8
  | .desEncMa _ => 1 + 8
  | .desEncDc _ => 1 + 8
  | .tdesEnc _ => 1 + 8
  | .tdesDec _ => 1 + 8
  | .tdesKey _ => 1 + 24
  | .tdesEncHw _ => 1 + 8
  | .tdesDecHw _ => 1 + 8
  | .sm4Enc _ => 1 + 16
  | .sm4Dec _ => 1 + 16
  | .sm4Key _ => 1 + 16
  | .sm4EncRd _ => 1 + 16
  | .rsacrt len _ => 3 + min len.toNat Config.scrCap
  | .rsasfm len _ => 3 + min len.toNat Config.scrCap
  | .rsasfmRd len _ => 3 + min len.toNat Config.scrCap
  | .rsacrtDc len _ => 3 + min len.toNat Config.scrCap
  | .pwdChk1 _ => 1 + 4
  | .pwdChk2 _ => 1 + 4
  | .pwdSet _ => 1 + 4
  | .fi0 => 1
  | .fi1 => 1
  | .fi2 => 1
  | .fi3 => 1
  | .fi4 => 1
  | .fi5 => 1
  | .fi6 => 1
  | .fi7 => 1
  | .fi8 => 1
  | .fi9 => 1
  | .fi10 => 1
  | .fi11 => 1
  | .fi12 => 1
  | .fi13 => 1
  | .fi14 => 1
  | .fi15 => 1
  | .unknown _ => 1

/-- The length of the longest frame: a variable frame that declares 168 bytes or more (rule R93). -/
def longestFrame : Nat := 3 + Config.scrCap

/-- The bytes of an instruction given as one number: byte `j` of the frame is bits `8j+7..8j` of `w` for the `nbits`
bits that the opcode table gives the row, and 0 above them, up to the longest frame. -/
def tableFrame (nbits w : Nat) : List Byte :=
  (List.range longestFrame).map fun j => BitVec.ofNat 8 ((w % 2 ^ nbits) >>> (8 * j))

/-- The command that the decoder reads from an instruction whose bits are `w`, numbered as spec/opcode_table.json
numbers them. -/
def decodeTableWord (nbits w : Nat) : Option Instr :=
  match decode (tableFrame nbits w) with
  | .ok i _ => some i
  | .incomplete => none

end Sys2Proof
end

