-- ==== Sys2Proof/Machine/AesFunctions.lean ====
section
/-! DEFINITION. The AES functions (41_aes_functions.md rules R150 to R172, entries G1 and G2 of
93_implementation_defined.md): field arithmetic, tables, key expansion, cipher and inverse cipher, the table-driven
form; and the countermeasure datapaths of 43_aes_countermeasures.md: masked through (rule R212), masked before
(rule R213), random delay (rule R223), random S-box order (rule R224). All are pure functions. -/

namespace Sys2Proof.Machine

/-- `Nop(k)`: `k` cycles of no operation between computing `x` and using it. No event and no state change, timing only
(00_scope.md rule R13, 70_reset_and_hazards.md rule R401). -/
def nop {α : Type} (_k : Nat) (x : α) : α := x

/-- Writes `f i` to place `i` for the places of `order`, one after the other: the table lookups of one round in the order
of a permutation (43_aes_countermeasures.md rule R224, 44_des_tdes.md rule R258). -/
def fillInOrder {α : Type} {n : Nat} (order : List (Fin n)) (f : Fin n → α) (start : Vector α n) : Vector α n :=
  order.foldl (fun v i => v.set i.val (f i)) start

/-! ### Arithmetic in GF(2^8) and the tables -/

/-- `xtime`: multiplication by the field element 2 (rule R152). -/
def xtime (a : Byte) : Byte := if a.msb then (a <<< 1) ^^^ 0x1B#8 else a <<< 1

/-- `gmul(a, b)`: the product of two bytes, bit by bit of `b` from bit 0 up (rule R152). -/
def gmul (a b : Byte) : Byte :=
  ((List.range 8).foldl (fun ra i => (if b.getLsbD i then ra.1 ^^^ ra.2 else ra.1, xtime ra.2)) (0#8, a)).1

/-- `a^n` in the field, for `n < 256`: square and multiply over the bits of `n`, highest first (rule R152). -/
def gpow (a : Byte) (n : Nat) : Byte :=
  (List.range 8).foldl (fun r i => if n.testBit (7 - i) then gmul (gmul r r) a else gmul r r) 1#8

/-- `ginv(a) = a^254`, the inverse of a byte other than 0; `ginv(0) = 0` (rule R152). -/
def ginv (a : Byte) : Byte := gpow a 254

/-- `SBOX` by its definition: the inverse, rotated and added up, and the constant 0x63 (rule R153). The table `sbox` holds
these values (`sbox_eq_sboxOfInverse` in Laws/Aes.lean). -/
def sboxOfInverse (x : Byte) : Byte :=
  let b := ginv x
  b ^^^ b.rotateLeft 1 ^^^ b.rotateLeft 2 ^^^ b.rotateLeft 3 ^^^ b.rotateLeft 4 ^^^ 0x63#8

/-- Entry `x` of a table of 256 bytes given as 16 rows of 16 bytes, first byte of a row most significant: row = high
nibble of `x`, column = low nibble. -/
def byteTable (rows : List Nat) (x : Byte) : Byte :=
  BitVec.ofNat 8 (rows.getD (x.toNat / 16) 0 >>> (8 * (15 - x.toNat % 16)))

/-- The rows `0x` to `Fx` of `SBOX` (rule R153). -/
def sboxRows : List Nat :=
  [0x637c777bf26b6fc53001672bfed7ab76, 0xca82c97dfa5947f0add4a2af9ca472c0,
   0xb7fd9326363ff7cc34a5e5f171d83115, 0x04c723c31896059a071280e2eb27b275,
   0x09832c1a1b6e5aa0523bd6b329e32f84, 0x53d100ed20fcb15b6acbbe394a4c58cf,
   0xd0efaafb434d338545f9027f503c9fa8, 0x51a3408f929d38f5bcb6da2110fff3d2] ++
  [0xcd0c13ec5f974417c4a77e3d645d1973, 0x60814fdc222a908846eeb814de5e0bdb,
   0xe0323a0a4906245cc2d3ac629195e479, 0xe7c8376d8dd54ea96c56f4ea657aae08,
   0xba78252e1ca6b4c6e8dd741f4bbd8b8a, 0x703eb5664803f60e613557b986c11d9e,
   0xe1f8981169d98e949b1e87e9ce5528df, 0x8ca1890dbfe6426841992d0fb054bb16]

/-- The rows `0x` to `Fx` of `INVSBOX` (rule R154). -/
def invSboxRows : List Nat :=
  [0x52096ad53036a538bf40a39e81f3d7fb, 0x7ce339829b2fff87348e4344c4dee9cb,
   0x547b9432a6c2233dee4c950b42fac34e, 0x082ea16628d924b2765ba2496d8bd125,
   0x72f8f66486689816d4a45ccc5d65b692, 0x6c704850fdedb9da5e154657a78d9d84,
   0x90d8ab008cbcd30af7e45805b8b34506, 0xd02c1e8fca3f0f02c1afbd0301138a6b] ++
  [0x3a9111414f67dcea97f2cfcef0b4e673, 0x96ac7422e7ad3585e2f937e81c75df6e,
   0x47f11a711d29c5896fb7620eaa18be1b, 0xfc563e4bc6d279209adbc0fe78cd5af4,
   0x1fdda8338807c731b11210592780ec5f, 0x60517fa919b54a0d2de57a9f93c99cef,
   0xa0e03b4dae2af5b0c8ebbb3c83539961, 0x172b047eba77d626e169146355210c7d]

/-- `SBOX[x]` (rule R153). -/
def sbox (x : Byte) : Byte := byteTable sboxRows x

/-- `INVSBOX[x]` (rule R154). -/
def invSbox (x : Byte) : Byte := byteTable invSboxRows x

/-! ### The transformations of the state: byte `s[r + 4c]` is row `r`, column `c` (rule R155) -/

/-- `SubBytes` (rule R156). -/
def subBytes (s : Block) : Block := Vector.ofFn fun i => sbox s[i]

/-- `InvSubBytes` (rule R156). -/
def invSubBytes (s : Block) : Block := Vector.ofFn fun i => invSbox s[i]

/-- `ShiftRows`: row `r` rotates left by `r` columns (rule R157). -/
def shiftRows (s : Block) : Block :=
  Vector.ofFn fun i => s[i.val % 4 + 4 * ((i.val / 4 + i.val % 4) % 4)]'(by omega)

/-- `InvShiftRows`: row `r` rotates right by `r` columns (rule R157). -/
def invShiftRows (s : Block) : Block :=
  Vector.ofFn fun i => s[i.val % 4 + 4 * ((i.val / 4 + 4 - i.val % 4) % 4)]'(by omega)

/-- Column `c` of the state: bytes `4c` to `4c+3` (rule R155). -/
def column (s : Block) (c : Fin 4) : Bytes 4 := Vector.ofFn fun r => s[4 * c.val + r.val]'(by omega)

/-- The state whose column `c` is `f (column c)`. -/
def mapColumns (f : Bytes 4 → Bytes 4) (s : Block) : Block :=
  Vector.ofFn fun i => (f (column s ⟨i.val / 4, by omega⟩))[i.val % 4]'(by omega)

/-- The product of a column with the circulant matrix whose first row is `c0 c1 c2 c3`: row `i` of the result is
`c0·a[i] + c1·a[i+1] + c2·a[i+2] + c3·a[i+3]`, indices modulo 4. -/
def mixWith (c0 c1 c2 c3 : Byte) (a : Bytes 4) : Bytes 4 :=
  Vector.ofFn fun i =>
    gmul c0 (a[i.val]'(by omega)) ^^^ gmul c1 (a[(i.val + 1) % 4]'(by omega)) ^^^
    gmul c2 (a[(i.val + 2) % 4]'(by omega)) ^^^ gmul c3 (a[(i.val + 3) % 4]'(by omega))

/-- `MixColumn` (rule R158): the rows of its matrix are `2 3 1 1`, `1 2 3 1`, `1 1 2 3`, `3 1 1 2`. -/
def mixColumn (a : Bytes 4) : Bytes 4 := mixWith 2 3 1 1 a

/-- `InvMixColumn` (rule R164): rows `14 11 13 9`, `9 14 11 13`, `13 9 14 11`, `11 13 9 14`. -/
def invMixColumn (a : Bytes 4) : Bytes 4 := mixWith 14 11 13 9 a

/-- `MixColumns` (rule R158). -/
def mixColumns (s : Block) : Block := mapColumns mixColumn s

/-- `InvMixColumns` (rule R164). -/
def invMixColumns (s : Block) : Block := mapColumns invMixColumn s

/-- `AddRoundKey` (rule R159). -/
def addRoundKey (s k : Block) : Block := xorBytes s k

/-! ### Key expansion -/

/-- `RCON[j]` for `j ≥ 1` (rule R161). -/
def rcon : Nat → Byte
  | 0 => 0x01#8
  | 1 => 0x01#8
  | j + 1 => xtime (rcon j)

/-- `RotWord` (rule R160). -/
def rotWord (t : Bytes 4) : Bytes 4 := Vector.ofFn fun j => t[(j.val + 1) % 4]'(by omega)

/-- `SubWord` (rule R160). -/
def subWord (t : Bytes 4) : Bytes 4 := Vector.ofFn fun j => sbox t[j]

/-- Word `w[i]` of the schedule from `w[i-1]` and `w[i-Nk]`, for `i ≥ Nk` (rule R160). -/
def nextKeyWord (nk i : Nat) (prev back : Bytes 4) : Bytes 4 :=
  if i % nk = 0 then
    xorBytes back (Vector.ofFn fun j =>
      (subWord (rotWord prev))[j] ^^^ (if j.val = 0 then rcon (i / nk) else 0#8))
  else if nk = 8 ∧ i % nk = 4 then
    xorBytes back (subWord prev)
  else
    xorBytes back prev

/-- `count` more words of the schedule, from word `i` on; `ws` holds the words so far, newest first (rule R160). -/
def expandWords (nk : Nat) : (count i : Nat) → (ws : List (Bytes 4)) → List (Bytes 4)
  | 0, _, ws => ws
  | count + 1, i, ws =>
    expandWords nk count (i + 1) (nextKeyWord nk i (ws.getD 0 (zeroBytes 4)) (ws.getD (nk - 1) (zeroBytes 4)) :: ws)

/-- `w[0]` to `w[Nk-1]`: the key itself, four bytes a word (rule R160). -/
def keyWords (nk : Nat) (key : Bytes (4 * nk)) : List (Bytes 4) :=
  (List.range nk).map fun i => Vector.ofFn fun j => key.toList.getD (4 * i + j.val) 0#8

/-- `AES_KeyExpansion(K)` as the list of the `Nr + 1 = Nk + 7` round keys: round key `r` is words `4r` to `4r+3`, word
`4r + c` its column `c` (rules R150, R160). -/
def aesKeyExpansion (nk : Nat) (key : Bytes (4 * nk)) : List Block :=
  let words := (expandWords nk (4 * (nk + 7) - nk) nk (keyWords nk key).reverse).reverse
  (List.range (nk + 7)).map fun r =>
    Vector.ofFn fun i => (words.getD (4 * r + i.val / 4) (zeroBytes 4))[i.val % 4]'(by omega)

/-- The register layout of the AES-256 schedule: round key `r` at bytes `16r` to `16r+15` (10_state.md rule R28). -/
def packSchedule (rk : List Block) : Bytes 240 :=
  Vector.ofFn fun i => (rk.getD (i.val / 16) (zeroBytes 16))[i.val % 16]'(by omega)

/-- `rk[r] = RK256[16r .. 16r+15]` for `r = 0..14` (42_aes_commands.md rule R200). -/
def unpackSchedule (b : Bytes 240) : List Block :=
  List.ofFn fun r : Fin 15 => Vector.ofFn fun i => b[16 * r.val + i.val]'(by omega)

/-! ### The cipher and the inverse cipher -/

/-- Rounds 1 to `Nr` of `AES_Cipher` on the round keys `rk[1..Nr]`; the last has no `MixColumns` (rule R162). -/
def aesRounds : List Block → Block → Block
  | [], s => s
  | [k], s => addRoundKey (shiftRows (subBytes s)) k
  | k :: k' :: ks, s => aesRounds (k' :: ks) (addRoundKey (mixColumns (shiftRows (subBytes s))) k)

/-- `AES_Cipher(rk, P)` (rule R162). -/
def aesCipher : List Block → Block → Block
  | [], p => p
  | k :: ks, p => aesRounds ks (addRoundKey p k)

/-- The rounds of `AES_InvCipher` on the round keys `rk[Nr-1], ..., rk[0]`; the last has no `InvMixColumns`
(rule R165). -/
def aesInvRounds : List Block → Block → Block
  | [], s => s
  | [k], s => addRoundKey (invSubBytes (invShiftRows s)) k
  | k :: k' :: ks, s => aesInvRounds (k' :: ks) (invMixColumns (addRoundKey (invSubBytes (invShiftRows s)) k))

/-- `AES_InvCipher(rk, C)` (rule R165). -/
def aesInvCipher (rk : List Block) (c : Block) : Block :=
  match rk.reverse with
  | [] => c
  | k :: ks => aesInvRounds ks (addRoundKey c k)

/-- `AES_Encrypt(K, P)`, `K` of `4·Nk` bytes (rule R162). -/
def aesEncrypt (nk : Nat) (key : Bytes (4 * nk)) (p : Block) : Block := aesCipher (aesKeyExpansion nk key) p

/-- `AES_Decrypt(K, C)` (rule R165). -/
def aesDecrypt (nk : Nat) (key : Bytes (4 * nk)) (c : Block) : Block := aesInvCipher (aesKeyExpansion nk key) c

/-! ### The table-driven form -/

/-- `W(b0, b1, b2, b3)`: four bytes as a word, the first in bits 31 to 24 (rules R167, R168). -/
def packWord (b0 b1 b2 b3 : Byte) : Word32 := b0 ++ b1 ++ b2 ++ b3

/-- Byte `j` of a word, `j = 0` the most significant: `(w >> (24 - 8j)) and 0xFF` (rule R168). -/
def wordByte (w : Word32) (j : Nat) : Byte := w.extractLsb' (24 - 8 * j) 8

/-- `ror32(v, n)` (rule R167). -/
def ror32 (v : Word32) (n : Nat) : Word32 := (v >>> n) ||| (v <<< (32 - n))

/-- `TE0[x]`; `TEj[x] = ror32(TE0[x], 8j)` (rule R167). -/
def te0 (x : Byte) : Word32 := packWord (gmul 2 (sbox x)) (sbox x) (sbox x) (gmul 3 (sbox x))

/-- `TD0[x]`; `TDj[x] = ror32(TD0[x], 8j)` (rule R169). -/
def td0 (x : Byte) : Word32 :=
  packWord (gmul 14 (invSbox x)) (gmul 9 (invSbox x)) (gmul 13 (invSbox x)) (gmul 11 (invSbox x))

/-- A block as four words, word `c` from bytes `4c` to `4c+3` (rule R168). -/
def blockWords (b : Block) : Vector Word32 4 :=
  Vector.ofFn fun c => packWord (b[4 * c.val]'(by omega)) (b[4 * c.val + 1]'(by omega))
    (b[4 * c.val + 2]'(by omega)) (b[4 * c.val + 3]'(by omega))

/-- The 16 bytes of four words, each word most significant byte first (rule R168). -/
def wordsBlock (u : Vector Word32 4) : Block :=
  Vector.ofFn fun i => wordByte (u[i.val / 4]'(by omega)) (i.val % 4)

/-- `xor` of the words of two word blocks. -/
def xorWords (a b : Vector Word32 4) : Vector Word32 4 := Vector.ofFn fun c => a[c] ^^^ b[c]

/-- The byte that lookup `j` of column `c` reads when encrypting: byte `j` of `t[(c + j) mod 4]` (rule R168). -/
def encLookup (t : Vector Word32 4) (c : Fin 4) (j : Nat) : Byte :=
  wordByte (t[(c.val + j) % 4]'(by omega)) j

/-- The byte that lookup `j` of column `c` reads when decrypting: byte `j` of `t[(c - j) mod 4]` (rule R170). -/
def decLookup (t : Vector Word32 4) (c : Fin 4) (j : Nat) : Byte :=
  wordByte (t[(c.val + (4 - j % 4)) % 4]'(by omega)) j

/-- One middle round by four table lookups a column (rule R168, rule R170). -/
def tableRound (tab : Byte → Word32) (look : Vector Word32 4 → Fin 4 → Nat → Byte) (t : Vector Word32 4) :
    Vector Word32 4 :=
  Vector.ofFn fun c =>
    tab (look t c 0) ^^^ ror32 (tab (look t c 1)) 8 ^^^ ror32 (tab (look t c 2)) 16 ^^^ ror32 (tab (look t c 3)) 24

/-- The last round by four S-box lookups a column (rule R168, rule R170). -/
def tableLast (sub : Byte → Byte) (look : Vector Word32 4 → Fin 4 → Nat → Byte) (t : Vector Word32 4) :
    Vector Word32 4 :=
  Vector.ofFn fun c => packWord (sub (look t c 0)) (sub (look t c 1)) (sub (look t c 2)) (sub (look t c 3))

/-- The rounds of the table-driven form on the words of the remaining round keys. -/
def tableRounds (tab : Byte → Word32) (sub : Byte → Byte) (look : Vector Word32 4 → Fin 4 → Nat → Byte) :
    List (Vector Word32 4) → Vector Word32 4 → Vector Word32 4
  | [], t => t
  | [k], t => xorWords (tableLast sub look t) k
  | k :: k' :: ks, t => tableRounds tab sub look (k' :: ks) (xorWords (tableRound tab look t) k)

/-- `AES_Cipher_Tbl(K, P)`: the schedule is recomputed from the key on every call (rule R168). -/
def aesCipherTbl (nk : Nat) (key : Bytes (4 * nk)) (p : Block) : Block :=
  match (aesKeyExpansion nk key).map blockWords with
  | [] => p
  | k :: ks => wordsBlock (tableRounds te0 sbox encLookup ks (xorWords (blockWords p) k))

/-- `dk[1..Nr]` from `rk[1..Nr]`: `InvMixColumns` of each but the last (rule R169). -/
def decScheduleTail : List Block → List Block
  | [] => []
  | [k] => [k]
  | k :: k' :: ks => invMixColumns k :: decScheduleTail (k' :: ks)

/-- The decryption schedule `dk`: the first and the last round key as they are, `InvMixColumns` of the others
(rule R169). -/
def decSchedule : List Block → List Block
  | [] => []
  | k :: ks => k :: decScheduleTail ks

/-- `AES_InvCipher_Tbl(K, C)` (rule R170). -/
def aesInvCipherTbl (nk : Nat) (key : Bytes (4 * nk)) (c : Block) : Block :=
  match ((decSchedule (aesKeyExpansion nk key)).map blockWords).reverse with
  | [] => c
  | k :: ks => wordsBlock (tableRounds td0 invSbox decLookup ks (xorWords (blockWords c) k))

/-! ### The masked datapaths -/

/-- The mask values of policy `MT`: `m`, `m'` and `m1` to `m4` (10_state.md rule R29, rule R212). -/
structure MtMasks where
  m : Byte
  m' : Byte
  r : Bytes 4
  deriving DecidableEq, Repr

/-- What the preparation of `MT` makes: the masked S-box `SM`, the row masks `RI` and `RO`, `M'v`, and the masked round
keys (rule R212). -/
structure MtPrep where
  sm : Vector Byte 256
  ri : Block
  ro : Block
  mv' : Block
  mrk : List Block
  deriving DecidableEq, Repr

/-- `SM`, the rebuilt table: entry `y` is `SBOX[y xor m] xor m'`, that is `SM[x xor m] = SBOX[x] xor m'` for every `x`
(rule R212). -/
def maskedSbox (m m' : Byte) : Vector Byte 256 := Vector.ofFn fun y => sbox (BitVec.ofNat 8 y.val ^^^ m) ^^^ m'

/-- A block that carries byte `r[i mod 4]` at place `i`: one mask byte a row (rule R212, `RI` and `RO`). -/
def rowMask (r : Bytes 4) : Block := Vector.ofFn fun i => r[i.val % 4]'(by omega)

/-- A block of sixteen equal bytes (rule R212, `Mv` and `M'v`; rule R217). -/
def constBlock (b : Byte) : Block := Vector.ofFn fun _ => b

/-- The masked round keys: `mrk[r] = rk[r] xor RO xor Mv` but for the last, `mrk[Nr] = rk[Nr] xor M'v` (rule R212). -/
def maskKeys (ro mv mv' : Block) : List Block → List Block
  | [] => []
  | [k] => [xorBytes k mv']
  | k :: k' :: ks => xorBytes (xorBytes k ro) mv :: maskKeys ro mv mv' (k' :: ks)

/-- The preparation of `MT`, the "full table rebuild" (rule R212). -/
def mtPrepare (nk : Nat) (key : Bytes (4 * nk)) (k : MtMasks) : MtPrep :=
  let ri := rowMask k.r
  let ro := rowMask (mixColumn k.r)
  let mv' := constBlock k.m'
  ⟨maskedSbox k.m k.m', ri, ro, mv', maskKeys ro (constBlock k.m) mv' (aesKeyExpansion nk key)⟩

/-- `s[i] <- SM[s[i]]` for every `i` (rule R212). -/
def subMasked (sm : Vector Byte 256) (s : Block) : Block := Vector.ofFn fun i => sm[s[i].toNat]'(s[i].isLt)

/-- Rounds 1 to `Nr` of the masked encryption (rule R212). -/
def mtRounds (q : MtPrep) : List Block → Block → Block
  | [], s => s
  | [k], s => xorBytes (shiftRows (subMasked q.sm s)) k
  | k :: k' :: ks, s =>
    mtRounds q (k' :: ks)
      (xorBytes (mixColumns (xorBytes (xorBytes (shiftRows (subMasked q.sm s)) q.mv') q.ri)) k)

/-- The masked encryption of rule R212. -/
def mtEncrypt (q : MtPrep) (p : Block) : Block :=
  match q.mrk with
  | [] => p
  | k :: ks => mtRounds q ks (xorBytes (xorBytes p q.ro) k)

/-- `AES_MaskedThrough(K, P, m, m', (m1,m2,m3,m4))` (rule R212). -/
def aesMaskedThrough (nk : Nat) (key : Bytes (4 * nk)) (p : Block) (k : MtMasks) : Block :=
  mtEncrypt (mtPrepare nk key k) p

/-- Rounds 1 to `Nr` of `AES_MaskedBefore` (rule R213): only the last round key is masked, and the output is unmasked. -/
def mbRounds (mask : Block) : List Block → Block → Block
  | [], s => s
  | [k], s => xorBytes (xorBytes (shiftRows (subBytes s)) (xorBytes k mask)) mask
  | k :: k' :: ks, s => mbRounds mask (k' :: ks) (addRoundKey (mixColumns (shiftRows (subBytes s))) k)

/-- `AES_MaskedBefore(K, P, M)` (rule R213). -/
def aesMaskedBefore (nk : Nat) (key : Bytes (4 * nk)) (p mask : Block) : Block :=
  match aesKeyExpansion nk key with
  | [] => p
  | k :: ks => mbRounds mask ks (xorBytes (xorBytes p mask) (xorBytes k mask))

/-! ### Random delay and random S-box order -/

/-- The rounds of rule R223 from round `r` on: a delay point before each `AddRoundKey` (rule R221); `delay r` is the
number of no-op cycles drawn for round `r`. -/
def aesRoundsRd (delay : Nat → Nat) : Nat → List Block → Block → Block
  | _, [], s => s
  | r, [k], s => addRoundKey (nop (delay r) (shiftRows (subBytes s))) k
  | r, k :: k' :: ks, s =>
    aesRoundsRd delay (r + 1) (k' :: ks) (addRoundKey (nop (delay r) (mixColumns (shiftRows (subBytes s)))) k)

/-- `AES_Cipher` with random delays (rule R223). -/
def aesCipherRd (delay : Nat → Nat) : List Block → Block → Block
  | [], p => p
  | k :: ks, p => aesRoundsRd delay 1 ks (addRoundKey (nop (delay 0) p) k)

/-- `SubBytes` carried out in the order of a permutation of the places (rule R224). -/
def subBytesInOrder (order : List (Fin 16)) (s : Block) : Block := fillInOrder order (fun i => sbox s[i]) s

/-- The rounds of `AES_Cipher` from round `r` on with `SubBytes` of round `r` in the order `order r` (rule R224). -/
def aesRoundsRs (order : Nat → List (Fin 16)) : Nat → List Block → Block → Block
  | _, [], s => s
  | r, [k], s => addRoundKey (shiftRows (subBytesInOrder (order r) s)) k
  | r, k :: k' :: ks, s =>
    aesRoundsRs order (r + 1) (k' :: ks) (addRoundKey (mixColumns (shiftRows (subBytesInOrder (order r) s))) k)

/-- `AES_Cipher` with the S-box lookups of each round in a drawn order (rules R224, R225). -/
def aesCipherRs (order : Nat → List (Fin 16)) : List Block → Block → Block
  | [], p => p
  | k :: ks, p => aesRoundsRs order 1 ks (addRoundKey p k)

end Sys2Proof.Machine
end

