-- ==== Sys2Proof/Machine/State.lean ====
section
/-! DEFINITION. The state of the core (10_state.md rules R20 to R44), the reasons why it can stop, and the state after
reset. The fields of the spec's tuple (rule R20) come first; the fields after them are the model's own: the
configuration, and the inputs and outputs of a step, which the host's form of a step keeps in the state. -/

namespace Sys2Proof.Machine

/-- The sequencer `SEQ` (rule R31). -/
inductive Seq where
  | boot
  | awaitOpcode
  | halted
  deriving DecidableEq, Repr, Inhabited

/-- An event of the trace (00_scope.md rules R13 and R14). -/
inductive Event where
  /-- `Rx(b)`: a byte taken from the transport. -/
  | rx (b : Byte)
  /-- `Tx(b)`: a byte sent to the host. -/
  | tx (b : Byte)
  /-- `TrigRise`: the trigger line is asserted. -/
  | trigRise
  /-- `TrigFall`: the trigger line is deasserted. -/
  | trigFall
  /-- `FaultMark`: the fault handler marks its pin. -/
  | faultMark
  deriving DecidableEq, Repr, Inhabited

/-- What the fault-injection environment does to one command: the perturbation inputs `Fault(1)`, `Fault(2)`
(43_aes_countermeasures.md rule R226), `FaultChk(1)`, `FaultChk(2)` (47_session.md rule R319). A byte string shorter
than the perturbed result stands for itself followed by zero bytes. -/
structure EnvInput where
  fault1 : List Byte
  fault2 : List Byte
  faultChk1 : Bool
  faultChk2 : Bool
  deriving DecidableEq, Repr, Inhabited

/-- A command that the environment does not disturb: all zero and all false (rules R226, R319). -/
def EnvInput.quiet : EnvInput := ⟨[], [], false, false⟩

/-- The scratch buffer as (offset, byte) pairs in canonical form: offsets strictly rising, none with the value that an
unlisted offset reads as. -/
abbrev Memory := List Host.Cell

/-- What an unlisted offset of the scratch buffer reads as: zero, the value to which every dispatcher iteration sets all
168 bytes (30_encoding.md rule R91; notes/assumptions/4.md). -/
def Memory.unlisted : Byte := 0#8

/-- The state of the core and, in its last fields, of its surroundings. -/
structure State where
  /-- `KEY_DES[0..7]` (rule R21). -/
  keyDes : Bytes 8
  /-- `KEY_TDES[0..23]` (rule R21). -/
  keyTdes : Bytes 24
  /-- `KEY_AES128[0..15]` (rule R21). -/
  keyAes128 : Bytes 16
  /-- `KEY_AES256[0..31]` (rule R21). -/
  keyAes256 : Bytes 32
  /-- `KEY_SM4[0..15]` (rule R21). -/
  keySm4 : Bytes 16
  /-- `PWD[0..3]` (rule R26). -/
  pwd : Bytes 4
  /-- `RK256[0..239]`, the AES-256 expanded schedule (rule R28). -/
  rk256 : Bytes 240
  /-- `AUTH`, the document's `authenticated` (rule R33). -/
  auth : Bool
  /-- `GLITCHED`, the document's `glitchedBoot` (rule R34). -/
  glitched : Bool
  /-- `SCR[0..167]`, the scratch buffer (rule R41). -/
  scr : Memory
  /-- `PLEN`, the payload-length accumulator (rule R36). -/
  plen : BitVec 16
  /-- `SEQ`, the sequencer (rule R31). -/
  seq : Seq
  /-- `CPOS`, the number of bytes taken from the transport since reset (rule R32). -/
  cpos : Nat
  /-- `XSEL`, the selected channel (rule R37). -/
  xsel : Bool
  /-- `TRIG`, the level of the trigger output (rule R38). -/
  trig : Bool
  /-- `FAULTPIN`, the pin that the fault handler marks (rule R39). -/
  faultpin : Bool
  /-- Model's own: the read-only configuration of the device (rules R10 and R20). -/
  cfg : Config
  /-- Model's own: the level of the strap pin (60_exceptions.md rule R358(d)). -/
  strap : Bool
  /-- Model's own: the final counter of the boot-time busy loop of this power-up (70_reset_and_hazards.md rule R384). -/
  bootCounter : Nat
  /-- Model's own: the bytes that wait in the transport, the next one first (20_memory.md rule R67). -/
  rx : List Byte
  /-- Model's own: the trace, the events since reset in order (rules R13 and R14). -/
  trace : List Event
  /-- Model's own: the random draws to come that the environment has fixed, the next one first (rule R13). -/
  draws : List Nat
  /-- Model's own: how many draws there have been since reset; `Config.freeDraw` is applied to it (rule R30). -/
  drawIx : Nat
  /-- Model's own: what the fault-injection environment does to the commands to come, the next one first. -/
  env : List EnvInput
  deriving DecidableEq, Repr

/-- Why the core has no step. -/
inductive Fault where
  /-- Raised by `step` when the waiting bytes hold no complete frame: the core is stuck in `RxByte` until the host sends
  more (20_memory.md rule R67, 70_reset_and_hazards.md rule R392, 93_implementation_defined.md U7). The state is not
  changed. Safe: the hardware does not go on either. -/
  | awaitingBytes
  /-- Raised by `step` in `HALTED`: no step is enabled until a power cycle (60_exceptions.md rule R352,
  93_implementation_defined.md U9). Safe. -/
  | haltedForEver
  /-- Raised by `TrigBegin` when `TRIG` is already 1, outside its precondition (40_trigger.md rule R131). No reachable
  state gives it. Safe. -/
  | trigBeginWhileHigh
  /-- Raised by `TrigEnd` when `TRIG` is 0, outside its precondition (40_trigger.md rule R132). No reachable state gives
  it. Safe. -/
  | trigEndWhileLow
  /-- Raised by an access to a scratch offset above 167, which does not exist (00_scope.md rule R12, 10_state.md
  rule R41). No command of a well-formed frame gives it. Safe. -/
  | scratchOutOfRange
  deriving DecidableEq, Repr

/-- Why the model gives a step no meaning. -/
inductive Refusal where
  /-- Raised by `exec` for an instruction that has no meaning yet. Safe. -/
  | notModelled (mnemonic : String)
  /-- Raised by the RSA commands when `PLEN` is not `RSA_K` or the operand is not below `n`: the spec gives no behaviour
  and says that a model refuses the frame (46_rsa.md rule R302, 93_implementation_defined.md U4). Safe. -/
  | rsaOperandOutsideDomain
  /-- Raised by an opcode of an external collaborator, a member of the configuration's `EXT_OPCODES`: the spec does not
  say what the command does and has a model refuse it (30_encoding.md rule R108). Safe. -/
  | externalOpcode (op : Byte)
  deriving DecidableEq, Repr

/-- The outcome of a step or of a part of one. -/
abbrev Res := Host.Outcome State Fault Refusal

/-- The state at the first arrival in `AWAIT_OPCODE` of a device of configuration `cfg` (rule R44): the defaults in the
key registers and the password, the schedule of the default AES-256 key, `AUTH`, `TRIG`, `FAULTPIN` and `CPOS` zero, the
strap level in `XSEL`, no event yet. `SCR` and `PLEN` are unspecified there; the model sets them to zero
(notes/assumptions/4.md). -/
def State.resetWith (cfg : Config) (strap glitched : Bool) : State where
  keyDes := cfg.defKeyDes
  keyTdes := cfg.defKeyTdes
  keyAes128 := cfg.defKeyAes128
  keyAes256 := cfg.defKeyAes256
  keySm4 := cfg.defKeySm4
  pwd := cfg.defPwd
  rk256 := packSchedule (aesKeyExpansion 8 cfg.defKeyAes256)
  auth := false
  glitched := glitched
  scr := []
  plen := 0
  seq := .awaitOpcode
  cpos := 0
  xsel := strap
  trig := false
  faultpin := false
  cfg := cfg
  strap := strap
  bootCounter := if glitched then cfg.bootLoopExpect + 1 else cfg.bootLoopExpect
  rx := []
  trace := []
  draws := []
  drawIx := 0
  env := []

/-- The machine right after reset, with no fault injected and nothing sent by the host yet (rule R44). Its configuration
and strap level are free values but for the default sets of opcodes (notes/assumptions/1.md, 2.md and 18.md). -/
def State.reset : State := State.resetWith Config.device Config.strapAtPowerUp false

end Sys2Proof.Machine
end

