-- ==== Sys2Proof/Machine/Operands.lean ====
section
/-! DEFINITION. The operands of the commands: what a command reads beside its payload and its key. Draws (00_scope.md
rule R13, 10_state.md rules R29 and R30) in every form the commands use them, the perturbation inputs of the environment
(43_aes_countermeasures.md rule R226, 47_session.md rule R319), parts of a payload, and the RSA operand (46_rsa.md rule
R302). -/

namespace Sys2Proof.Machine

/-! ### Draws -/

/-- Draw `k` of the draws to come, as a natural number: the one that the environment has fixed, or else a free value
(rule R13; notes/assumptions/3.md). -/
def draw (s : State) (k : Nat) : Nat := s.draws.getD k (Config.freeDraw (s.drawIx + k))

/-- `Draw(0..255)`: a mask byte (43_aes_countermeasures.md rule R215). -/
def drawByte (s : State) (k : Nat) : Byte := BitVec.ofNat 8 (draw s k)

/-- `Draw({true, false})` (42_aes_commands.md rule R197). -/
def drawBool (s : State) (k : Nat) : Bool := draw s k % 2 == 1

/-- `Draw(0..RD_MAX)`: the length of a delay point (43_aes_countermeasures.md rule R221). -/
def drawDelay (s : State) (k : Nat) : Nat := draw s k % (s.cfg.rdMax + 1)

/-- The permutation of a list that a number chooses, place by place: the first place takes element `x mod length`, the
other places are chosen by `x div length`. Every permutation is chosen by some number. The first argument bounds the
number of places. -/
def chooseOrder {α : Type} : Nat → List α → Nat → List α
  | 0, _, _ => []
  | fuel + 1, l, x =>
    match l[x % l.length]? with
    | none => []
    | some a => a :: chooseOrder fuel (l.eraseIdx (x % l.length)) (x / l.length)

/-- A drawn permutation of `{0, ..., n-1}` (43_aes_countermeasures.md rule R224, 44_des_tdes.md rule R258). -/
def drawOrder (n : Nat) (s : State) (k : Nat) : List (Fin n) := chooseOrder n (List.finRange n) (draw s k)

/-- The six masks of policy `MT`, in the order in which they are drawn: `MSK_M`, `MSK_MP`, `MSK_R[0..3]`
(43_aes_countermeasures.md rule R215). -/
def drawMasks (s : State) : MtMasks :=
  ⟨drawByte s 0, drawByte s 1, Vector.ofFn fun j : Fin 4 => drawByte s (2 + j.val)⟩

/-- The mask of policy `MB`: sixteen copies of the drawn byte `MSK_B` (43_aes_countermeasures.md rule R217). -/
def drawMaskBlock (s : State) : Block := constBlock (drawByte s 0)

/-- `HW_PRESENT` and the accelerator's verdict: whether the accelerator answers (42_aes_commands.md rule R197). -/
def accelerates (s : State) : Bool := s.cfg.hwPresent && drawBool s 0

/-- How many draws a hardware-backed command makes: one, if the accelerator is present (42_aes_commands.md rule R197). -/
def hwDraws (s : State) : Nat := if s.cfg.hwPresent then 1 else 0

/-! ### Perturbation inputs -/

/-- What the fault-injection environment does to the next command. -/
def envInput (s : State) : EnvInput := s.env.headD EnvInput.quiet

/-- A perturbation input as a byte string of length `n` (43_aes_countermeasures.md rule R226). -/
def perturbation (n : Nat) (l : List Byte) : Bytes n := Vector.ofFn fun i => l.getD i.val 0#8

/-- `Fault(1)`, of length `n` (43_aes_countermeasures.md rule R226). -/
def fault1 (n : Nat) (s : State) : Bytes n := perturbation n (envInput s).fault1

/-- `Fault(2)`, of length `n` (43_aes_countermeasures.md rule R226). -/
def fault2 (n : Nat) (s : State) : Bytes n := perturbation n (envInput s).fault2

/-! ### Parts of a payload -/

/-- Bytes `a` to `a + m - 1` of a string (00_scope.md rule R11, `B[i..j]`). -/
def sliceBytes {n : Nat} (a m : Nat) (b : Bytes n) (h : a + m ≤ n) : Bytes m :=
  Vector.ofFn fun i => b[a + i.val]'(by omega)

/-- `W32`: four bytes as one 32-bit word, the first byte the most significant (47_session.md rule R321; which order forms
the word does not matter, 20_memory.md rule R66). -/
def word32 (b : Bytes 4) : Word32 := packWord b[0] b[1] b[2] b[3]

/-! ### The RSA operand -/

/-- The operand of an RSA command lies outside its domain: `PLEN` is not `RSA_K`, or `c >= n` (46_rsa.md rule R302). The
empty payload comes first: it has no meaning whatever the key, since `RSA_K` is at least 1 (30_encoding.md rule R98). -/
def rsaOutsideDomain (key : RsaKey) (plen c : Nat) : Bool :=
  plen == 0 || (plen != key.k || decide (key.n ≤ c))

end Sys2Proof.Machine
end

