-- ==== Sys2Proof/Machine/Flags.lean ====
section
/-! DEFINITION. The decisions of the core. It has no arithmetic flags (10_state.md rule R35); its two flags are `AUTH`
and `GLITCHED` (rules R33, R34), and what sets or reads them is here: the outcomes of the password checks, the check of
the boot loop, the choice of the response to an unknown opcode, and the comparison of a double computation. -/

namespace Sys2Proof.Machine

/-- The first comparison of a password check: byte for byte, `xor` `FaultChk(1)` (47_session.md rules R319, R320). -/
def passwordBytesMatch (given stored : Bytes 4) (e : EnvInput) : Bool :=
  ((given[0] == stored[0] && given[1] == stored[1] && given[2] == stored[2] && given[3] == stored[3]) ^^ e.faultChk1)

/-- The second comparison: the two strings as 32-bit words, `xor`ed and tested for zero, `xor` `FaultChk(2)`
(47_session.md rules R319, R321). -/
def passwordWordsMatch (given stored : Bytes 4) (e : EnvInput) : Bool :=
  ((word32 given ^^^ word32 stored == 0#32) ^^ e.faultChk2)

/-- The outcome of `PWD.CHK1` (47_session.md rule R320). -/
def singleCheck (given stored : Bytes 4) (e : EnvInput) : Bool := passwordBytesMatch given stored e

/-- The outcome of `PWD.CHK2`: the second comparison is made only after the first succeeded, `gap` no-op cycles later
(47_session.md rule R321). -/
def doubleCheck (gap : Nat) (given stored : Bytes 4) (e : EnvInput) : Bool :=
  if passwordBytesMatch given stored e then nop gap (passwordWordsMatch given stored e) else false

/-- The response of a password check: `RESP_OK` or `RESP_FAIL` (47_session.md rule R320). -/
def checkResponse (cfg : Config) (ok : Bool) : Bytes 2 := if ok then cfg.respOk else cfg.respFail

/-- `GLITCHED` after the boot-time busy loop: its final counter differs from the expected one
(70_reset_and_hazards.md rule R384). -/
def bootLoopGlitched (cfg : Config) (counter : Nat) : Bool := counter != cfg.bootLoopExpect

/-- The response to an unknown opcode, "checked in this priority order": `GLITCHED`, then `AUTH`, then neither
(60_exceptions.md rule R342). -/
def unknownResponse (cfg : Config) (glitched auth : Bool) : List Byte :=
  if glitched then cfg.respOk.toList ++ cfg.respOk.toList ++ cfg.respOk.toList ++ cfg.respOk.toList
  else if auth then cfg.respSecret.toList
  else cfg.respBadcmd

/-- The comparison of a double computation: the two results agree bit for bit (43_aes_countermeasures.md rule R228). -/
def resultsAgree {n : Nat} (a b : Bytes n) : Bool := a.toList == b.toList

end Sys2Proof.Machine
end

