-- ==== Sys2Proof/Machine/RsaFunctions.lean ====
section
/-! DEFINITION. The RSA functions (46_rsa.md rules R300 to R307, entry G5 of 93_implementation_defined.md) on
non-negative integers of unbounded size (rule R301). -/

namespace Sys2Proof.Machine

/-- `BE(B)`: the big-endian value of a byte string, 0 of the empty one (00_scope.md rule R11, rule R301). -/
def beValue (bs : List Byte) : Nat := bs.foldl (fun acc b => 256 * acc + b.toNat) 0

/-- `toBE(x, k)`: the `k`-byte string whose big-endian value is `x`, for `x < 256^k` (rules R11, R301). -/
def toBE (k x : Nat) : Bytes k := Vector.ofFn fun i => BitVec.ofNat 8 (x / 256 ^ (k - 1 - i.val))

/-- `bitlen(d)`: the number of bits of `d` (rule R303). -/
def bitLen (d : Nat) : Nat := if d = 0 then 0 else Nat.log2 d + 1

/-- Iterations `i - 1` down to 0 of left-to-right square and multiply of `c` by exponent `d` modulo `n`, from
accumulator `r`; `delay` gives the no-op cycles of the delay point at the head of each iteration (rules R303, R312). -/
def squareMultiply (delay : Nat → Nat) (c d n : Nat) : Nat → Nat → Nat
  | 0, r => r
  | i + 1, r =>
    let r := nop (delay i) r
    let sq := r * r % n
    squareMultiply delay c d n i (if d.testBit i then sq * c % n else sq)

/-- `c^d mod n` by left-to-right square and multiply over the bits of `d` (rule R303). -/
def powMod (c d n : Nat) : Nat := squareMultiply (fun _ => 0) c d n (bitLen d) 1

/-- `RSA_SFM(c)`, the straightforward method (rule R303). -/
def rsaSfm (key : RsaKey) (c : Nat) : Nat := powMod c key.d key.n

/-- `RSA_SFM(c)` with random delays, one draw per bit of `d` (rule R312). -/
def rsaSfmRd (delay : Nat → Nat) (key : RsaKey) (c : Nat) : Nat :=
  squareMultiply delay c key.d key.n (bitLen key.d) 1

/-- `(a - b) mod p` taken non-negative, for `a` and `b` of any size (rule R304). -/
def subMod (a b p : Nat) : Nat := (a + (p - b % p)) % p

/-- `RSA_CRT(c)`: the two exponentiations and Garner's recombination (rule R304). -/
def rsaCrt (key : RsaKey) (c : Nat) : Nat :=
  let m1 := powMod (c % key.p) key.dp key.p
  let m2 := powMod (c % key.q) key.dq key.q
  let h := key.qinv * subMod m1 m2 key.p % key.p
  m2 + h * key.q

end Sys2Proof.Machine
end

