-- ==== Sys2Proof/Machine/Ops.lean ====
section
/-! DEFINITION. The named operations of the core: the updates of the state, the scratch buffer (10_state.md rule R41,
20_memory.md), the transport (rules R67 to R69), the trigger (40_trigger.md rules R131 to R133), the shapes that the
commands share (42_aes_commands.md rules R190, R192, R197), and the machine's exceptional paths: the reaction to an
unknown opcode (60_exceptions.md rule R342), the fault path (rule R351), and the reset sequence, which is the only
return from it (70_reset_and_hazards.md rule R380). -/

namespace Sys2Proof.Machine

/-- Goes on with `f` from the state that `r` leaves; a fault or a refusal stands. -/
def Res.andThen (r : Res) (f : State → Res) : Res :=
  match r with
  | .next s => f s
  | .fault x => .fault x
  | .refused x => .refused x

/-- `a` if `b` holds, else `a'`; where both go on, the choice is made in the state. -/
def chooseRes (b : Bool) (a a' : Res) : Res :=
  match a, a' with
  | .next s, .next s' => .next (if b then s else s')
  | r, r' => if b then r else r'

/-! ### Updates of the state -/

/-- Appends events to the trace (00_scope.md rule R14). -/
def emit (es : List Event) (s : State) : State := { s with trace := s.trace ++ es }

/-- `CPOS` after `n` more bytes are taken from the transport (10_state.md rule R32). -/
def advance (n : Nat) (s : State) : State := { s with cpos := s.cpos + n }

/-- Sets the contents of the scratch buffer. -/
def withScr (m : Memory) (s : State) : State := { s with scr := m }

/-- `PLEN <- x` (10_state.md rule R36). -/
def withPlen (x : BitVec 16) (s : State) : State := { s with plen := x }

/-- `TRIG <- b` (10_state.md rule R38). -/
def withTrig (b : Bool) (s : State) : State := { s with trig := b }

/-- `AUTH <- b` (10_state.md rule R33). -/
def withAuth (b : Bool) (s : State) : State := { s with auth := b }

/-- The `PWD` write of `PWD.SET`, with `AUTH <- 0` (47_session.md rule R322). -/
def withPwd (w : Bytes 4) (s : State) : State := { s with pwd := w, auth := false }

/-- `KEY_DES <- k` (44_des_tdes.md rule R262). -/
def withKeyDes (k : Bytes 8) (s : State) : State := { s with keyDes := k }

/-- `KEY_TDES <- k` (44_des_tdes.md rule R269). -/
def withKeyTdes (k : Bytes 24) (s : State) : State := { s with keyTdes := k }

/-- `KEY_AES128 <- k` (42_aes_commands.md rule R192). -/
def withKeyAes128 (k : Bytes 16) (s : State) : State := { s with keyAes128 := k }

/-- `KEY_AES256 <- k` and the schedule rebuilt from it (42_aes_commands.md rule R202). -/
def withKeyAes256 (k : Bytes 32) (s : State) : State :=
  { s with keyAes256 := k, rk256 := packSchedule (aesKeyExpansion 8 k) }

/-- `KEY_SM4 <- k` (45_sm4.md rule R292). -/
def withKeySm4 (k : Bytes 16) (s : State) : State := { s with keySm4 := k }

/-- The draws to come after `n` draws. -/
def consumeDraws (n : Nat) (s : State) : State := { s with draws := s.draws.drop n, drawIx := s.drawIx + n }

/-- The state in which a handler returns: `SEQ` is `AWAIT_OPCODE`, and the next command has the environment's next
input. -/
def returned (s : State) : State := { s with seq := .awaitOpcode, env := s.env.tail }

/-- `goto AWAIT_OPCODE` (00_scope.md rule R13). -/
def finish (s : State) : Res := .next (returned s)

/-! ### The scratch buffer -/

/-- The byte at offset `a`. -/
def memByte : Memory → Nat → Byte
  | [], _ => Memory.unlisted
  | (b, v) :: rest, a => if a = b then v else memByte rest a

/-- Puts a cell before the first cell of a higher offset. -/
def insertCell (c : Host.Cell) : Memory → Memory
  | [] => [c]
  | d :: rest => if c.1 < d.1 then c :: d :: rest else d :: insertCell c rest

/-- The buffer with byte `v` at offset `a`, in canonical form. -/
def memSet (m : Memory) (a : Nat) (v : Byte) : Memory :=
  let others := m.filter fun c => c.1 != a
  if v = Memory.unlisted then others else insertCell (a, v) others

/-- The buffer with the bytes of `bs` from offset `a` upward. -/
def storeBytes (m : Memory) (a : Nat) : List Byte → Memory
  | [] => m
  | b :: bs => storeBytes (memSet m a b) (a + 1) bs

/-- The `n` bytes from offset `a` upward. -/
def loadBytes (m : Memory) (a n : Nat) : Bytes n := Vector.ofFn fun i => memByte m (a + i.val)

/-- The canonical form: offsets strictly rising, all of them in the buffer (rule R41), and no entry equal to what an
unlisted offset reads as. -/
abbrev Memory.wf (m : Memory) : Prop :=
  (m.map Prod.fst).Pairwise (· < ·) ∧ ∀ c ∈ m, c.1 < Config.scrCap ∧ c.2 ≠ Memory.unlisted

/-- `MemRead(a, n)`: needs `a + n <= 168` (00_scope.md rule R12). -/
def memRead (a n : Nat) (s : State) (use : Bytes n → Res) : Res :=
  if a + n ≤ Config.scrCap then use (loadBytes s.scr a n) else .fault .scratchOutOfRange

/-- `MemWrite(a, n, v)` for a string `v` of `n` bytes: needs `a + n <= 168` (00_scope.md rule R12). -/
def memWrite (a n : Nat) (v : List Byte) (s : State) : Res :=
  if a + n ≤ Config.scrCap then .next (withScr (storeBytes s.scr a v) s) else .fault .scratchOutOfRange

/-! ### The transport -/

/-- The head of a dispatcher iteration, up to the receipt of the opcode (30_encoding.md rule R91): the scratch buffer and
`PLEN` are zeroed and the opcode byte is taken. The bytes of the frame leave the transport; `rest` are those after it.
The payload's `Rx` events belong to the handler. -/
def beginIteration (rest : List Byte) (s : State) : State :=
  emit [.rx (s.rx.headD 0#8)] (advance 1 { s with scr := [], plen := 0, rx := rest })

/-- `RecvFixed(n)` (30_encoding.md rule R95). -/
def recvFixed {n : Nat} (payload : Bytes n) (s : State) : Res :=
  (memWrite Config.inOff n payload.toList s).andThen fun s => .next (emit (payload.toList.map .rx) (advance n s))

/-- The bytes of a variable frame after its opcode: the length field, high byte first, and the payload (30_encoding.md
rule R96). -/
def varReceived (len : BitVec 16) (payload : List Byte) : List Byte :=
  len.extractLsb' 8 8 :: len.extractLsb' 0 8 :: payload

/-- `RecvVar()`: two length bytes, then `min(L, 168)` payload bytes (30_encoding.md rule R96). -/
def recvVar (len : BitVec 16) (payload : List Byte) (s : State) : Res :=
  (memWrite Config.inOff payload.length payload (withPlen (BitVec.ofNat 16 (min len.toNat Config.scrCap)) s)).andThen
    fun s => .next (emit ((varReceived len payload).map .rx) (advance (2 + payload.length) s))

/-- `Tx(B)` (20_memory.md rule R68). -/
def transmit (bs : List Byte) (s : State) : Res := .next (emit (bs.map .tx) s)

/-- `Tx(SCR[a..a+n-1])` if `send` holds, else nothing; then the end of the handler. -/
def respondFrom (a n : Nat) (send : Bool) (s : State) : Res :=
  memRead a n s fun out => (transmit (if send then out.toList else []) s).andThen finish

/-! ### The trigger -/

/-- `TrigBegin()` (40_trigger.md rule R131). -/
def trigBegin (s : State) : Res :=
  if s.trig then .fault .trigBeginWhileHigh else .next (emit [.trigRise] (withTrig true s))

/-- `TrigEnd()` (40_trigger.md rule R132). -/
def trigEnd (s : State) : Res :=
  if s.trig then .next (emit [.trigFall] (withTrig false s)) else .fault .trigEndWhileLow

/-- A bracket around `body`, which hands over a value computed inside the window to what follows `TrigEnd`
(40_trigger.md rule R133). -/
def bracket {α : Type} (body : State → (State → α → Res) → Res) (s : State) (after : State → α → Res) : Res :=
  (trigBegin s).andThen fun s => body s fun s a => (trigEnd s).andThen fun s => after s a

/-! ### The shapes of the commands -/

/-- `SCR[OUT_OFF..OUT_OFF+b-1] <- T(SCR[0..n-1])` (42_aes_commands.md rule R190). -/
def transform {n b : Nat} (T : Bytes n → Bytes b) (s : State) : Res :=
  memRead Config.inOff n s fun x => memWrite Config.outOff b (T x).toList s

/-- The bracketed part of a block command, and its response: inside the bracket `T` reads the key register and makes
`draws` draws. -/
def bracketBlock {n b : Nat} (draws : Nat) (T : State → Bytes n → Bytes b) (s : State) : Res :=
  bracket (fun s after => (transform (T s) s).andThen fun s => after (consumeDraws draws s) ()) s
    fun s _ => respondFrom Config.outOff b true s

/-- `BlockCmd(n, b, T)` (42_aes_commands.md rule R190). -/
def blockCmd {n b : Nat} (draws : Nat) (T : State → Bytes n → Bytes b) (payload : Bytes n) (s : State) : Res :=
  (recvFixed payload s).andThen (bracketBlock draws T)

/-- A block command whose masks are drawn, and whose tables and keys are prepared, before the bracket: `trigpos` is
`AFTER_PREP` (40_trigger.md rule R139). -/
def preparedCmd {α : Type} {n b : Nat} (draws : Nat) (prepare : State → α) (T : α → Bytes n → Bytes b)
    (payload : Bytes n) (s : State) : Res :=
  (recvFixed payload s).andThen fun s =>
    let prepared := prepare s
    bracketBlock 0 (fun _ => T prepared) (consumeDraws draws s)

/-- `HwCmd(n, alg, dir, key)`; `soft` is the value that the accelerator's answer has (42_aes_commands.md rules R196 and
R197). Its second branch is error class 2 (60_exceptions.md rule R343). -/
def hwCmd {n : Nat} (soft : State → Bytes n → Bytes n) (payload : Bytes n) (s : State) : Res :=
  (recvFixed payload s).andThen fun s =>
    let drawn := consumeDraws (hwDraws s) s
    chooseRes (accelerates s) (bracketBlock 0 soft drawn)
      ((memWrite Config.outOff n (zeroBytes n).toList drawn).andThen (respondFrom Config.outOff n true))

/-- A key-change command: the register is written from the payload in the buffer and echoed from the register
(42_aes_commands.md rule R192). -/
def keyChange {n : Nat} (write : Bytes n → State → State) (register : State → Bytes n) (payload : Bytes n)
    (s : State) : Res :=
  (recvFixed payload s).andThen fun s =>
    memRead Config.inOff n s fun key =>
      let written := write key s
      (transmit (register written).toList written).andThen finish

/-- A block command of policy double computation (43_aes_countermeasures.md rules R228 and R229): the second computation
undoes the first and is compared with the payload. -/
def doubleCmd {n : Nat} (first second : State → Bytes n → Bytes n) (payload : Bytes n) (s : State) : Res :=
  (recvFixed payload s).andThen fun s =>
    bracket
      (fun s after =>
        memRead Config.inOff n s fun p =>
          let c := xorBytes (first s p) (fault1 n s)
          (memWrite Config.outOff n c.toList s).andThen fun s =>
            let p2 := xorBytes (second s c) (fault2 n s)
            after s (resultsAgree p2 p))
      s fun s agree => respondFrom Config.outOff n agree s

/-- Receives an RSA frame and goes on with the operand `c`, if it lies in the domain (46_rsa.md rule R302). -/
def recvOperand (len : BitVec 16) (payload : List Byte) (s : State) (use : State → Nat → Res) : Res :=
  (recvVar len payload s).andThen fun s =>
    memRead Config.inOff s.plen.toNat s fun x =>
      if rsaOutsideDomain s.cfg.rsa s.plen.toNat (beValue x.toList) then .refused .rsaOperandOutsideDomain
      else use s (beValue x.toList)

/-- An RSA command: `compute` inside the bracket, which makes `draws` draws; the result over the input, and the response
(46_rsa.md rules R306 and R310). -/
def rsaCmd (draws : State → Nat) (compute : State → Nat → Nat) (len : BitVec 16) (payload : List Byte) (s : State) : Res :=
  recvOperand len payload s fun s c =>
    bracket
      (fun s after =>
        let k := s.cfg.rsa.k
        (memWrite Config.inOff k (toBE k (compute s c)).toList s).andThen fun s => after (consumeDraws (draws s) s) ())
      s fun s _ => respondFrom Config.inOff s.cfg.rsa.k true s

/-- An RSA command of policy double computation (46_rsa.md rule R313). -/
def rsaDoubleCmd (first second : State → Nat → Nat) (len : BitVec 16) (payload : List Byte) (s : State) : Res :=
  recvOperand len payload s fun s c =>
    bracket
      (fun s after =>
        let k := s.cfg.rsa.k
        let a := xorBytes (toBE k (first s c)) (fault1 k s)
        let b := xorBytes (toBE k (second s c)) (fault2 k s)
        (memWrite Config.inOff k a.toList s).andThen fun s => after s (resultsAgree a b))
      s fun s agree => respondFrom Config.inOff s.cfg.rsa.k agree s

/-- A password check: the comparison inside the bracket, then `AUTH` and the response (47_session.md rules R320 and
R321). `check` has the received bytes and the state. -/
def passwordCmd (check : Bytes 4 → State → Bool) (payload : Bytes 4) (s : State) : Res :=
  (recvFixed payload s).andThen fun s =>
    bracket (fun s after => memRead Config.inOff 4 s fun w => after s (check w s)) s fun s ok =>
      (transmit (checkResponse s.cfg ok).toList (withAuth ok s)).andThen finish

/-! ### The exceptional paths -/

/-- `raise UnknownOpcode(op)`, error class 1: the opcode does not enter the response (60_exceptions.md rule R342). -/
def unknownOpcode (s : State) : Res := (transmit (unknownResponse s.cfg s.glitched s.auth) s).andThen finish

/-- `FaultHalt`: the pin is marked and the core halts; everything else stands (60_exceptions.md rule R351). -/
def faultHalt (s : State) : State := emit [.faultMark] { s with faultpin := true, seq := .halted }

/-- An opcode of the fault-injection catalogue, error class 3, as 93_implementation_defined.md U5 lets a model have it: a
draw decides between the two outcomes that it names. Control survives: the opcode is echoed inside the bracket, in which
the scenario runs, and the core goes on; or the scenario crashes the device inside its bracket: `FaultHalt`, with the
trigger line asserted (40_trigger.md rule R141, 60_exceptions.md rule R344; notes/assumptions/10.md). -/
def catalogueCmd (op : Byte) (s : State) : Res :=
  let drawn := consumeDraws 1 s
  chooseRes (drawBool s 0)
    (bracket (fun s after => (transmit [op] s).andThen fun s => after s ()) drawn fun s _ => finish s)
    ((trigBegin drawn).andThen fun s => .next (faultHalt s))

/-- An opcode that is no command's, as `Decode` of 30_encoding.md rule R92 tells them apart by the configuration: one of
the fault-injection catalogue, one of an external collaborator, refused, or else an unknown one. -/
def otherOpcode (op : Byte) (s : State) : Res :=
  if s.cfg.fiOpcodes.contains op then catalogueCmd op s
  else if s.cfg.extOpcodes.contains op then .refused (.externalOpcode op)
  else unknownOpcode s

/-- The reset sequence of a power-up, steps 2 to 8 (70_reset_and_hazards.md rule R380). It has no event. -/
def bootSequence (s : State) : State :=
  { s with
    xsel := s.strap
    trig := false
    faultpin := false
    keyDes := s.cfg.defKeyDes
    keyTdes := s.cfg.defKeyTdes
    keyAes128 := s.cfg.defKeyAes128
    keyAes256 := s.cfg.defKeyAes256
    keySm4 := s.cfg.defKeySm4
    pwd := s.cfg.defPwd
    rk256 := packSchedule (aesKeyExpansion 8 s.cfg.defKeyAes256)
    auth := false
    glitched := bootLoopGlitched s.cfg s.bootCounter
    cpos := 0
    seq := .awaitOpcode }

/-! ### What the host and the laboratory do (20_memory.md rule R79) -/

/-- The host appends bytes to the transport (20_memory.md rule R67). -/
def hostSend (bs : List Byte) (s : State) : State := { s with rx := s.rx ++ bs }

/-- A power cycle, the only reset (70_reset_and_hazards.md rule R380): the core is in `BOOT` with the strap pin at
`strap` and a boot loop that will end at `counter`, and a new trace begins; `waiting` is what the transport holds when it
is up again. Nothing of the core's state survives (10_state.md rule R44, 60_exceptions.md rule R361): every register is
zero until the reset sequence writes it (`SCR` and `PLEN`, which it does not write, notes/assumptions/4.md and 16.md). What
belongs to no register stays: the device's configuration, and the environment's draws and perturbations to come. -/
def powerCycle (strap : Bool) (counter : Nat) (waiting : List Byte) (s : State) : State where
  keyDes := zeroBytes 8
  keyTdes := zeroBytes 24
  keyAes128 := zeroBytes 16
  keyAes256 := zeroBytes 32
  keySm4 := zeroBytes 16
  pwd := zeroBytes 4
  rk256 := zeroBytes 240
  auth := false
  glitched := false
  scr := []
  plen := 0
  seq := .boot
  cpos := 0
  xsel := false
  trig := false
  faultpin := false
  cfg := s.cfg
  strap := strap
  bootCounter := counter
  rx := waiting
  trace := []
  draws := s.draws
  drawIx := s.drawIx
  env := s.env

end Sys2Proof.Machine
end

