-- ==== Sys2Proof/Machine/Aes128.lean ====
section
/-! DEFINITION. The plain AES-128 commands (42_aes_commands.md rules R191 to R199): textbook, key change,
table-driven, hardware backend. -/

namespace Sys2Proof.Machine

/-- `AES128.ENC` (42_aes_commands.md rule R191). -/
def execAes128Enc (payload : Bytes 16) (s : State) : Res := blockCmd 0 (fun s => aesEncrypt 4 s.keyAes128) payload s

/-- `AES128.DEC` (42_aes_commands.md rule R193). -/
def execAes128Dec (payload : Bytes 16) (s : State) : Res := blockCmd 0 (fun s => aesDecrypt 4 s.keyAes128) payload s

/-- `AES128.KEY` (42_aes_commands.md rule R192). -/
def execAes128Key (payload : Bytes 16) (s : State) : Res := keyChange withKeyAes128 State.keyAes128 payload s

/-- `AES128.ENC.TBL` (42_aes_commands.md rule R194). -/
def execAes128EncTbl (payload : Bytes 16) (s : State) : Res :=
  blockCmd 0 (fun s => aesCipherTbl 4 s.keyAes128) payload s

/-- `AES128.DEC.TBL` (42_aes_commands.md rule R195). -/
def execAes128DecTbl (payload : Bytes 16) (s : State) : Res :=
  blockCmd 0 (fun s => aesInvCipherTbl 4 s.keyAes128) payload s

/-- `AES128.ENC.HW` (42_aes_commands.md rule R198). -/
def execAes128EncHw (payload : Bytes 16) (s : State) : Res := hwCmd (fun s => aesEncrypt 4 s.keyAes128) payload s

/-- `AES128.DEC.HW` (42_aes_commands.md rule R199). -/
def execAes128DecHw (payload : Bytes 16) (s : State) : Res := hwCmd (fun s => aesDecrypt 4 s.keyAes128) payload s

end Sys2Proof.Machine
end

