-- ==== Sys2Proof/Machine/Aes256.lean ====
section
/-! DEFINITION. The plain AES-256 commands (42_aes_commands.md rules R200 to R204). -/

namespace Sys2Proof.Machine

/-- `AES256.ENC`: from the stored schedule `RK256` (42_aes_commands.md rule R200). -/
def execAes256Enc (payload : Bytes 16) (s : State) : Res :=
  blockCmd 0 (fun s => aesCipher (unpackSchedule s.rk256)) payload s

/-- `AES256.DEC`: from the stored schedule `RK256` (42_aes_commands.md rule R201). -/
def execAes256Dec (payload : Bytes 16) (s : State) : Res :=
  blockCmd 0 (fun s => aesInvCipher (unpackSchedule s.rk256)) payload s

/-- `AES256.KEY`: the schedule is rebuilt before the echo (42_aes_commands.md rule R202). -/
def execAes256Key (payload : Bytes 32) (s : State) : Res := keyChange withKeyAes256 State.keyAes256 payload s

/-- `AES256.ENC.HW`: the accelerator takes the key, not the schedule (42_aes_commands.md rule R203). -/
def execAes256EncHw (payload : Bytes 16) (s : State) : Res := hwCmd (fun s => aesEncrypt 8 s.keyAes256) payload s

/-- `AES256.DEC.HW` (42_aes_commands.md rule R204). -/
def execAes256DecHw (payload : Bytes 16) (s : State) : Res := hwCmd (fun s => aesDecrypt 8 s.keyAes256) payload s

end Sys2Proof.Machine
end

