-- ==== Sys2Proof/Machine/AesMasked.lean ====
section
/-! DEFINITION. The masked AES commands (43_aes_countermeasures.md rules R211 to R220). -/

namespace Sys2Proof.Machine

/-- `AES128.ENC.MT`: the masks are drawn, the table rebuilt and the round keys masked before the bracket
(43_aes_countermeasures.md rule R215). -/
def execAes128EncMt (payload : Bytes 16) (s : State) : Res :=
  preparedCmd 6 (fun s => mtPrepare 4 s.keyAes128 (drawMasks s)) mtEncrypt payload s

/-- `AES128.ENC.MTP`: as `AES128.ENC.MT`, with the draws and the preparation inside the bracket
(43_aes_countermeasures.md rule R216). -/
def execAes128EncMtp (payload : Bytes 16) (s : State) : Res :=
  blockCmd 6 (fun s => mtEncrypt (mtPrepare 4 s.keyAes128 (drawMasks s))) payload s

/-- `AES128.ENC.MB` (43_aes_countermeasures.md rule R217). -/
def execAes128EncMb (payload : Bytes 16) (s : State) : Res :=
  preparedCmd 1 (fun s => (s.keyAes128, drawMaskBlock s)) (fun km p => aesMaskedBefore 4 km.1 p km.2) payload s

/-- `AES128.ENC.MBX`: the payload is the block, then the mask (43_aes_countermeasures.md rule R218). -/
def execAes128EncMbx (payload : Bytes 32) (s : State) : Res :=
  blockCmd 0
    (fun s x => aesMaskedBefore 4 s.keyAes128 (sliceBytes 0 16 x (by decide)) (sliceBytes 16 16 x (by decide))) payload s

/-- `AES256.ENC.MT`: the masked round keys come from a fresh expansion of `KEY_AES256`
(43_aes_countermeasures.md rule R219). -/
def execAes256EncMt (payload : Bytes 16) (s : State) : Res :=
  preparedCmd 6 (fun s => mtPrepare 8 s.keyAes256 (drawMasks s)) mtEncrypt payload s

/-- `AES256.ENC.MB` (43_aes_countermeasures.md rule R220). -/
def execAes256EncMb (payload : Bytes 16) (s : State) : Res :=
  preparedCmd 1 (fun s => (s.keyAes256, drawMaskBlock s)) (fun km p => aesMaskedBefore 8 km.1 p km.2) payload s

end Sys2Proof.Machine
end

