-- ==== Sys2Proof/Machine/AesProtected.lean ====
section
/-! DEFINITION. The AES-128 commands of the other policies: random delay, random S-box order, misaligned, double
computation (43_aes_countermeasures.md rules R221 to R230). -/

namespace Sys2Proof.Machine

/-- `AES128.ENC.RD`: eleven delays, one before each `AddRoundKey` (43_aes_countermeasures.md rule R223). -/
def execAes128EncRd (payload : Bytes 16) (s : State) : Res :=
  blockCmd 11 (fun s => aesCipherRd (drawDelay s) (aesKeyExpansion 4 s.keyAes128)) payload s

/-- `AES128.ENC.RS`: ten permutations, one a round; round `r` uses draw `r - 1` (43_aes_countermeasures.md rules R224
and R225). -/
def execAes128EncRs (payload : Bytes 16) (s : State) : Res :=
  blockCmd 10 (fun s => aesCipherRs (fun r => drawOrder 16 s (r - 1)) (aesKeyExpansion 4 s.keyAes128)) payload s

/-- `AES128.ENC.MA`: `MA_OFFSET` no-op cycles directly after `TrigBegin` (43_aes_countermeasures.md rules R222 and
R227). -/
def execAes128EncMa (payload : Bytes 16) (s : State) : Res :=
  blockCmd 0 (fun s x => aesEncrypt 4 s.keyAes128 (nop s.cfg.maOffset x)) payload s

/-- `AES128.ENC.DC`: textbook encryption, table-driven decryption, comparison with the payload
(43_aes_countermeasures.md rule R229). -/
def execAes128EncDc (payload : Bytes 16) (s : State) : Res :=
  doubleCmd (fun s => aesEncrypt 4 s.keyAes128) (fun s => aesInvCipherTbl 4 s.keyAes128) payload s

end Sys2Proof.Machine
end

