-- ==== Sys2Proof/Machine/DesFunctions.lean ====
section
/-! DEFINITION. The DES and TDES functions (44_des_tdes.md rules R240 to R258, entry G3 of
93_implementation_defined.md). A bit string numbered from 1, left to right, is a bit vector whose most significant bit
is bit 1 (rule R240). -/

namespace Sys2Proof.Machine

/-- A permutation table applied to a bit string: `Y[i] = X[T[i]]`, bits numbered from 1 (rule R240). -/
def permute {n : Nat} (m : Nat) (table : List Nat) (x : BitVec n) : BitVec m :=
  BitVec.ofNat m (table.foldl (fun acc j => 2 * acc + (x.getMsbD (j - 1)).toNat) 0)

/-- `IP` (rule R241). -/
def desIP : List Nat :=
  [58, 50, 42, 34, 26, 18, 10, 2, 60, 52, 44, 36, 28, 20, 12, 4] ++
  [62, 54, 46, 38, 30, 22, 14, 6, 64, 56, 48, 40, 32, 24, 16, 8] ++
  [57, 49, 41, 33, 25, 17, 9, 1, 59, 51, 43, 35, 27, 19, 11, 3] ++
  [61, 53, 45, 37, 29, 21, 13, 5, 63, 55, 47, 39, 31, 23, 15, 7]

/-- `FP`, the inverse of `IP` (rule R242). -/
def desFP : List Nat :=
  [40, 8, 48, 16, 56, 24, 64, 32, 39, 7, 47, 15, 55, 23, 63, 31] ++
  [38, 6, 46, 14, 54, 22, 62, 30, 37, 5, 45, 13, 53, 21, 61, 29] ++
  [36, 4, 44, 12, 52, 20, 60, 28, 35, 3, 43, 11, 51, 19, 59, 27] ++
  [34, 2, 42, 10, 50, 18, 58, 26, 33, 1, 41, 9, 49, 17, 57, 25]

/-- `E`, 32 bits to 48 (rule R243). -/
def desE : List Nat :=
  [32, 1, 2, 3, 4, 5, 4, 5, 6, 7, 8, 9] ++
  [8, 9, 10, 11, 12, 13, 12, 13, 14, 15, 16, 17] ++
  [16, 17, 18, 19, 20, 21, 20, 21, 22, 23, 24, 25] ++
  [24, 25, 26, 27, 28, 29, 28, 29, 30, 31, 32, 1]

/-- `P`, 32 bits to 32 (rule R244). -/
def desP : List Nat :=
  [16, 7, 20, 21, 29, 12, 28, 17, 1, 15, 23, 26, 5, 18, 31, 10] ++
  [2, 8, 24, 14, 32, 27, 3, 9, 19, 13, 30, 6, 22, 11, 4, 25]

/-- The S-boxes `S1` to `S8`, four rows of sixteen entries each, in the order `S1` row 0, `S1` row 1, ... (rule R245). -/
def desSboxRows : List (List Nat) :=
  [[14, 4, 13, 1, 2, 15, 11, 8, 3, 10, 6, 12, 5, 9, 0, 7],
   [0, 15, 7, 4, 14, 2, 13, 1, 10, 6, 12, 11, 9, 5, 3, 8],
   [4, 1, 14, 8, 13, 6, 2, 11, 15, 12, 9, 7, 3, 10, 5, 0],
   [15, 12, 8, 2, 4, 9, 1, 7, 5, 11, 3, 14, 10, 0, 6, 13]] ++
  [[15, 1, 8, 14, 6, 11, 3, 4, 9, 7, 2, 13, 12, 0, 5, 10],
   [3, 13, 4, 7, 15, 2, 8, 14, 12, 0, 1, 10, 6, 9, 11, 5],
   [0, 14, 7, 11, 10, 4, 13, 1, 5, 8, 12, 6, 9, 3, 2, 15],
   [13, 8, 10, 1, 3, 15, 4, 2, 11, 6, 7, 12, 0, 5, 14, 9]] ++
  [[10, 0, 9, 14, 6, 3, 15, 5, 1, 13, 12, 7, 11, 4, 2, 8],
   [13, 7, 0, 9, 3, 4, 6, 10, 2, 8, 5, 14, 12, 11, 15, 1],
   [13, 6, 4, 9, 8, 15, 3, 0, 11, 1, 2, 12, 5, 10, 14, 7],
   [1, 10, 13, 0, 6, 9, 8, 7, 4, 15, 14, 3, 11, 5, 2, 12]] ++
  [[7, 13, 14, 3, 0, 6, 9, 10, 1, 2, 8, 5, 11, 12, 4, 15],
   [13, 8, 11, 5, 6, 15, 0, 3, 4, 7, 2, 12, 1, 10, 14, 9],
   [10, 6, 9, 0, 12, 11, 7, 13, 15, 1, 3, 14, 5, 2, 8, 4],
   [3, 15, 0, 6, 10, 1, 13, 8, 9, 4, 5, 11, 12, 7, 2, 14]] ++
  [[2, 12, 4, 1, 7, 10, 11, 6, 8, 5, 3, 15, 13, 0, 14, 9],
   [14, 11, 2, 12, 4, 7, 13, 1, 5, 0, 15, 10, 3, 9, 8, 6],
   [4, 2, 1, 11, 10, 13, 7, 8, 15, 9, 12, 5, 6, 3, 0, 14],
   [11, 8, 12, 7, 1, 14, 2, 13, 6, 15, 0, 9, 10, 4, 5, 3]] ++
  [[12, 1, 10, 15, 9, 2, 6, 8, 0, 13, 3, 4, 14, 7, 5, 11],
   [10, 15, 4, 2, 7, 12, 9, 5, 6, 1, 13, 14, 0, 11, 3, 8],
   [9, 14, 15, 5, 2, 8, 12, 3, 7, 0, 4, 10, 1, 13, 11, 6],
   [4, 3, 2, 12, 9, 5, 15, 10, 11, 14, 1, 7, 6, 0, 8, 13]] ++
  [[4, 11, 2, 14, 15, 0, 8, 13, 3, 12, 9, 7, 5, 10, 6, 1],
   [13, 0, 11, 7, 4, 9, 1, 10, 14, 3, 5, 12, 2, 15, 8, 6],
   [1, 4, 11, 13, 12, 3, 7, 14, 10, 15, 6, 8, 0, 5, 9, 2],
   [6, 11, 13, 8, 1, 4, 10, 7, 9, 5, 0, 15, 14, 2, 3, 12]] ++
  [[13, 2, 8, 4, 6, 15, 11, 1, 10, 9, 3, 14, 5, 0, 12, 7],
   [1, 15, 13, 8, 10, 3, 7, 4, 12, 5, 6, 11, 0, 14, 9, 2],
   [7, 11, 4, 1, 9, 12, 14, 2, 0, 6, 10, 13, 15, 3, 5, 8],
   [2, 1, 14, 7, 4, 10, 8, 13, 15, 12, 9, 0, 3, 5, 6, 11]]

/-- `PC1`, 64 bits to 56: `C0`, then `D0` (rule R247). -/
def desPC1 : List Nat :=
  [57, 49, 41, 33, 25, 17, 9, 1, 58, 50, 42, 34, 26, 18] ++
  [10, 2, 59, 51, 43, 35, 27, 19, 11, 3, 60, 52, 44, 36] ++
  [63, 55, 47, 39, 31, 23, 15, 7, 62, 54, 46, 38, 30, 22] ++
  [14, 6, 61, 53, 45, 37, 29, 21, 13, 5, 28, 20, 12, 4]

/-- `PC2`, 56 bits to 48 (rule R248). -/
def desPC2 : List Nat :=
  [14, 17, 11, 24, 1, 5, 3, 28, 15, 6, 21, 10] ++
  [23, 19, 12, 4, 26, 8, 16, 7, 27, 20, 13, 2] ++
  [41, 52, 31, 37, 47, 55, 30, 40, 51, 45, 33, 48] ++
  [44, 49, 39, 56, 34, 53, 46, 42, 50, 36, 29, 32]

/-- `SHIFT` for rounds 1 to 16 (rule R249). -/
def desShifts : List Nat := [1, 1, 2, 2, 2, 2, 2, 2, 1, 2, 2, 2, 2, 2, 2, 1]

/-- `Sj(b1 b2 b3 b4 b5 b6)`, `j = 0` for `S1`: row `b1 b6`, column `b2 b3 b4 b5` (rule R245). -/
def desSbox (j : Nat) (x : BitVec 6) : BitVec 4 :=
  let row := 2 * (x.getMsbD 0).toNat + (x.getMsbD 5).toNat
  let col := (x.extractLsb' 1 4).toNat
  BitVec.ofNat 4 ((desSboxRows.getD (4 * j + row) []).getD col 0)

/-- The six bits of `X` that lookup `j` reads, `j = 0` for `S1`: bits `6j+1` to `6j+6` (rule R246). -/
def desChunk (x : BitVec 48) (j : Nat) : BitVec 6 := x.extractLsb' (42 - 6 * j) 6

/-- The 32-bit string of eight 4-bit results, the first the most significant (rule R246). -/
def joinNibbles (y : Vector (BitVec 4) 8) : BitVec 32 :=
  y[0] ++ y[1] ++ y[2] ++ y[3] ++ y[4] ++ y[5] ++ y[6] ++ y[7]

/-- The order `S1, S2, ..., S8` of the lookups (rule R246). -/
def desOrder : List (Fin 8) := [0, 1, 2, 3, 4, 5, 6, 7]

/-- The round function with its lookups in the order `order` (rules R246 and R258). -/
def desRoundIn (order : List (Fin 8)) (r : BitVec 32) (k : BitVec 48) : BitVec 32 :=
  let x := permute 48 desE r ^^^ k
  let y := fillInOrder order (fun j => desSbox j.val (desChunk x j.val)) (Vector.ofFn fun _ => 0#4)
  permute 32 desP (joinNibbles y)

/-- The round function `f(R, K)` (rule R246). -/
def desRound (r : BitVec 32) (k : BitVec 48) : BitVec 32 := desRoundIn desOrder r k

/-- An 8-byte string as a 64-bit string, bit 1 the most significant bit of byte 0 (rule R240). -/
def bits64 (b : Bytes 8) : BitVec 64 := b[0] ++ b[1] ++ b[2] ++ b[3] ++ b[4] ++ b[5] ++ b[6] ++ b[7]

/-- A 64-bit string as 8 bytes (rule R240). -/
def bytes64 (x : BitVec 64) : Bytes 8 := Vector.ofFn fun i => x.extractLsb' (56 - 8 * i.val) 8

/-- The subkeys from `(C(i-1), D(i-1))` on, one for each shift left (rule R249). -/
def desSubkeys : List Nat → BitVec 28 → BitVec 28 → List (BitVec 48)
  | [], _, _ => []
  | n :: ns, c, d =>
    let c' := c.rotateLeft n
    let d' := d.rotateLeft n
    permute 48 desPC2 (c' ++ d') :: desSubkeys ns c' d'

/-- `DES_KeySchedule(K)`: `K1` to `K16` (rule R249). -/
def desKeySchedule (key : Bytes 8) : List (BitVec 48) :=
  let cd := permute 56 desPC1 (bits64 key)
  desSubkeys desShifts (cd.extractLsb' 28 28) (cd.extractLsb' 0 28)

/-- The two halves `(L, R)` of the DES state. -/
abbrev Halves := BitVec 32 × BitVec 32

/-- The rounds of DES: `(L, R)` becomes `(R, L xor f(R, K))` for each subkey in turn (rule R250). -/
def desRounds : List (BitVec 48) → Halves → Halves
  | [], lr => lr
  | k :: ks, lr => desRounds ks (lr.2, lr.1 ^^^ desRound lr.2 k)

/-- The halves of `IP(B)` (rule R250). -/
def desSplit (b : Bytes 8) : Halves :=
  let x := permute 64 desIP (bits64 b)
  (x.extractLsb' 32 32, x.extractLsb' 0 32)

/-- `FP(R16 ‖ L16)`: the halves are exchanged before `FP` (rule R250). -/
def desJoin (lr : Halves) : Bytes 8 := bytes64 (permute 64 desFP (lr.2 ++ lr.1))

/-- DES on a list of subkeys: split, rounds, join (rules R250, R251). -/
def desWith (keys : List (BitVec 48)) (b : Bytes 8) : Bytes 8 := desJoin (desRounds keys (desSplit b))

/-- `DES_Encrypt(K, B)` (rule R250). -/
def desEncrypt (key b : Bytes 8) : Bytes 8 := desWith (desKeySchedule key) b

/-- `DES_Decrypt(K, B)`: the subkeys in the order `K16` to `K1` (rule R251). -/
def desDecrypt (key b : Bytes 8) : Bytes 8 := desWith (desKeySchedule key).reverse b

/-- Part `j` of a 24-byte key: `K1 = K[0..7]`, `K2 = K[8..15]`, `K3 = K[16..23]` for `j = 0, 1, 2` (rule R252). -/
def tdesPart (key : Bytes 24) (j : Fin 3) : Bytes 8 := Vector.ofFn fun i => key[8 * j.val + i.val]'(by omega)

/-- `TDES_Encrypt(K, B)` (rule R252). -/
def tdesEncrypt (key : Bytes 24) (b : Bytes 8) : Bytes 8 :=
  desEncrypt (tdesPart key 2) (desDecrypt (tdesPart key 1) (desEncrypt (tdesPart key 0) b))

/-- `TDES_Decrypt(K, B)` (rule R253). -/
def tdesDecrypt (key : Bytes 24) (b : Bytes 8) : Bytes 8 :=
  desDecrypt (tdesPart key 0) (desEncrypt (tdesPart key 1) (desDecrypt (tdesPart key 2) b))

/-- The rounds of DES from round `i` on with a delay point at the head of each (rule R263, 43_aes_countermeasures.md
rule R221); `delay i` is the number of no-op cycles drawn for round `i + 1`. -/
def desRoundsRd (delay : Nat → Nat) : Nat → List (BitVec 48) → Halves → Halves
  | _, [], lr => lr
  | i, k :: ks, lr =>
    let lr := nop (delay i) lr
    desRoundsRd delay (i + 1) ks (lr.2, lr.1 ^^^ desRound lr.2 k)

/-- `DES_Encrypt` with random delays (rule R263). -/
def desEncryptRd (delay : Nat → Nat) (key b : Bytes 8) : Bytes 8 :=
  desJoin (desRoundsRd delay 0 (desKeySchedule key) (desSplit b))

/-- The rounds of DES from round `i` on, each with its lookups in the order `order i` (rule R258). -/
def desRoundsRs (order : Nat → List (Fin 8)) : Nat → List (BitVec 48) → Halves → Halves
  | _, [], lr => lr
  | i, k :: ks, lr => desRoundsRs order (i + 1) ks (lr.2, lr.1 ^^^ desRoundIn (order i) lr.2 k)

/-- `DES_Encrypt` with random S-box order (rule R264). -/
def desEncryptRs (order : Nat → List (Fin 8)) (key b : Bytes 8) : Bytes 8 :=
  desJoin (desRoundsRs order 0 (desKeySchedule key) (desSplit b))

end Sys2Proof.Machine
end

