-- ==== Sys2Proof/Machine/Des.lean ====
section
/-! DEFINITION. The DES commands (44_des_tdes.md rules R260 to R266). -/

namespace Sys2Proof.Machine

/-- `DES.ENC` (44_des_tdes.md rule R260). -/
def execDesEnc (payload : Bytes 8) (s : State) : Res := blockCmd 0 (fun s => desEncrypt s.keyDes) payload s

/-- `DES.DEC` (44_des_tdes.md rule R261). -/
def execDesDec (payload : Bytes 8) (s : State) : Res := blockCmd 0 (fun s => desDecrypt s.keyDes) payload s

/-- `DES.KEY` (44_des_tdes.md rule R262). -/
def execDesKey (payload : Bytes 8) (s : State) : Res := keyChange withKeyDes State.keyDes payload s

/-- `DES.ENC.RD`: sixteen delays, one at the head of each round (44_des_tdes.md rule R263). -/
def execDesEncRd (payload : Bytes 8) (s : State) : Res :=
  blockCmd 16 (fun s => desEncryptRd (drawDelay s) s.keyDes) payload s

/-- `DES.ENC.RS`: sixteen permutations, one a round (44_des_tdes.md rules R258 and R264). -/
def execDesEncRs (payload : Bytes 8) (s : State) : Res :=
  blockCmd 16 (fun s => desEncryptRs (drawOrder 8 s) s.keyDes) payload s

/-- `DES.ENC.MA`: `MA_OFFSET` no-op cycles directly after `TrigBegin` (44_des_tdes.md rule R265). -/
def execDesEncMa (payload : Bytes 8) (s : State) : Res :=
  blockCmd 0 (fun s x => desEncrypt s.keyDes (nop s.cfg.maOffset x)) payload s

/-- `DES.ENC.DC`: encryption, decryption, comparison with the payload (44_des_tdes.md rule R266). -/
def execDesEncDc (payload : Bytes 8) (s : State) : Res :=
  doubleCmd (fun s => desEncrypt s.keyDes) (fun s => desDecrypt s.keyDes) payload s

end Sys2Proof.Machine
end

