-- ==== Sys2Proof/Machine/FaultCatalogue.lean ====
section
/-! DEFINITION. The opcodes of the fault-injection catalogue in the default map, in the order in which 30_encoding.md rule
R107 names their categories. The set `FI_OPCODES` is a parameter: where the configuration has another set, such an opcode
is reserved or unknown as any other (`otherOpcode`). The spec leaves what a scenario does to 93_implementation_defined.md
U5; `catalogueCmd` says which option the model takes. -/

namespace Sys2Proof.Machine

/-- `FI.0`, integer overflow (30_encoding.md rule R107). -/
def execFi0 (s : State) : Res := otherOpcode 0xE0#8 s

/-- `FI.1`, integer underflow (30_encoding.md rule R107). -/
def execFi1 (s : State) : Res := otherOpcode 0xE1#8 s

/-- `FI.2`, integer divide-by-zero (30_encoding.md rule R107). -/
def execFi2 (s : State) : Res := otherOpcode 0xE2#8 s

/-- `FI.3`, floating overflow (30_encoding.md rule R107). -/
def execFi3 (s : State) : Res := otherOpcode 0xE3#8 s

/-- `FI.4`, floating underflow (30_encoding.md rule R107). -/
def execFi4 (s : State) : Res := otherOpcode 0xE4#8 s

/-- `FI.5`, floating divide-by-zero (30_encoding.md rule R107). -/
def execFi5 (s : State) : Res := otherOpcode 0xE5#8 s

/-- `FI.6`, write to read-only memory (30_encoding.md rule R107). -/
def execFi6 (s : State) : Res := otherOpcode 0xE6#8 s

/-- `FI.7`, stack buffer overflow by unchecked copy (30_encoding.md rule R107). -/
def execFi7 (s : State) : Res := otherOpcode 0xE7#8 s

/-- `FI.8`, double free (30_encoding.md rule R107). -/
def execFi8 (s : State) : Res := otherOpcode 0xE8#8 s

/-- `FI.9`, null-pointer dereference (30_encoding.md rule R107). -/
def execFi9 (s : State) : Res := otherOpcode 0xE9#8 s

/-- `FI.10`, out-of-bounds array write (30_encoding.md rule R107). -/
def execFi10 (s : State) : Res := otherOpcode 0xEA#8 s

/-- `FI.11`, out-of-bounds array read (30_encoding.md rule R107). -/
def execFi11 (s : State) : Res := otherOpcode 0xEB#8 s

/-- `FI.12`, unbounded allocation (30_encoding.md rule R107). -/
def execFi12 (s : State) : Res := otherOpcode 0xEC#8 s

/-- `FI.13`, raw stack overflow (30_encoding.md rule R107). -/
def execFi13 (s : State) : Res := otherOpcode 0xED#8 s

/-- `FI.14`, raw stack underflow (30_encoding.md rule R107). -/
def execFi14 (s : State) : Res := otherOpcode 0xEE#8 s

/-- `FI.15`, unaligned memory access (30_encoding.md rule R107). -/
def execFi15 (s : State) : Res := otherOpcode 0xEF#8 s

end Sys2Proof.Machine
end

