-- ==== Sys2Proof/Machine/Rsa.lean ====
section
/-! DEFINITION. The RSA commands (46_rsa.md rules R310 to R313). -/

namespace Sys2Proof.Machine

/-- `RSACRT` (46_rsa.md rule R310). -/
def execRsacrt (len : BitVec 16) (payload : List Byte) (s : State) : Res :=
  rsaCmd (fun _ => 0) (fun s => rsaCrt s.cfg.rsa) len payload s

/-- `RSASFM` (46_rsa.md rule R311). -/
def execRsasfm (len : BitVec 16) (payload : List Byte) (s : State) : Res :=
  rsaCmd (fun _ => 0) (fun s => rsaSfm s.cfg.rsa) len payload s

/-- `RSASFM.RD`: one delay at the head of each iteration of the exponent loop, so the first draw belongs to the highest
bit of `d` (46_rsa.md rule R312). -/
def execRsasfmRd (len : BitVec 16) (payload : List Byte) (s : State) : Res :=
  rsaCmd (fun s => bitLen s.cfg.rsa.d)
    (fun s => rsaSfmRd (fun i => drawDelay s (bitLen s.cfg.rsa.d - 1 - i)) s.cfg.rsa) len payload s

/-- `RSACRT.DC`: CRT, then the straightforward method, comparison of the results (46_rsa.md rule R313). -/
def execRsacrtDc (len : BitVec 16) (payload : List Byte) (s : State) : Res :=
  rsaDoubleCmd (fun s => rsaCrt s.cfg.rsa) (fun s => rsaSfm s.cfg.rsa) len payload s

end Sys2Proof.Machine
end

