-- ==== Sys2Proof/Machine/Session.lean ====
section
/-! DEFINITION. The session commands (47_session.md rules R320 to R322) and the unknown opcodes (60_exceptions.md rule R342). -/

namespace Sys2Proof.Machine

/-- `PWD.CHK1`, single password check (47_session.md rule R320). -/
def execPwdChk1 (payload : Bytes 4) (s : State) : Res :=
  passwordCmd (fun w s => singleCheck w s.pwd (envInput s)) payload s

/-- `PWD.CHK2`, double password check (47_session.md rule R321). -/
def execPwdChk2 (payload : Bytes 4) (s : State) : Res :=
  passwordCmd (fun w s => doubleCheck s.cfg.chkGap w s.pwd (envInput s)) payload s

/-- `PWD.SET`, password change: the echo of the key changes, and `AUTH` cleared (47_session.md rule R322). -/
def execPwdSet (payload : Bytes 4) (s : State) : Res := keyChange withPwd State.pwd payload s

/-- An opcode in no row of the table: error class 1, whatever the opcode (60_exceptions.md rule R342), unless the
configuration has it in one of its reserved sets (30_encoding.md rule R92). -/
def execUnknown (op : Byte) (s : State) : Res := otherOpcode op s

end Sys2Proof.Machine
end

