-- ==== Sys2Proof/Machine/Sm4Functions.lean ====
section
/-! DEFINITION. The SM4 functions (45_sm4.md rules R280 to R289, entry G4 of 93_implementation_defined.md). -/

namespace Sys2Proof.Machine

/-- The rows of `SM4_SBOX` (rule R281). -/
def sm4SboxRows : List Nat :=
  [0xd690e9fecce13db716b614c228fb2c05, 0x2b679a762abe04c3aa44132649860699,
   0x9c4250f491ef987a33540b43edcfac62, 0xe4b31ca9c908e89580df94fa758f3fa6,
   0x4707a7fcf37317ba83593c19e6854fa8, 0x686b81b27164da8bf8eb0f4b70569d35,
   0x1e240e5e6358d1a225227c3b01217887, 0xd40046579fd327524c3602e7a0c4c89e] ++
  [0xeabf8ad240c738b5a3f7f2cef96115a1, 0xe0ae5da49b341a55ad933230f58cb1e3,
   0x1df6e22e8266ca60c02923ab0d534e6f, 0xd5db3745defd8e2f03ff6a726d6c5b51,
   0x8d1baf92bbddbc7f11d95c411f105ad8, 0x0ac13188a5cd7bbd2d74d012b8e5b4b0,
   0x8969974a0c96777e65b9f109c56ec684, 0x18f07dec3adc4d2079ee5f3ed7cb3948]

/-- `SM4_SBOX[x]` (rule R281). -/
def sm4Sbox (x : Byte) : Byte := byteTable sm4SboxRows x

/-- `tau`: the S-box on each byte of a word, the most significant first (rule R282). -/
def sm4Tau (a : Word32) : Word32 :=
  packWord (sm4Sbox (wordByte a 0)) (sm4Sbox (wordByte a 1)) (sm4Sbox (wordByte a 2)) (sm4Sbox (wordByte a 3))

/-- `L`, the linear map of encryption and decryption (rule R283). -/
def sm4L (b : Word32) : Word32 :=
  b ^^^ b.rotateLeft 2 ^^^ b.rotateLeft 10 ^^^ b.rotateLeft 18 ^^^ b.rotateLeft 24

/-- `L'`, the linear map of the key expansion (rule R283). -/
def sm4L' (b : Word32) : Word32 := b ^^^ b.rotateLeft 13 ^^^ b.rotateLeft 23

/-- `T(x) = L(tau(x))` (rule R283). -/
def sm4T (x : Word32) : Word32 := sm4L (sm4Tau x)

/-- `T'(x) = L'(tau(x))` (rule R283). -/
def sm4T' (x : Word32) : Word32 := sm4L' (sm4Tau x)

/-- `FK0` to `FK3` (rule R284). -/
def sm4FK : Vector Word32 4 := #v[0xa3b1bac6#32, 0x56aa3350#32, 0x677d9197#32, 0xb27022dc#32]

/-- `CKi`: byte `j` is `((4i + j) · 7) mod 256` (rule R284). -/
def sm4CK (i : Nat) : Word32 :=
  packWord (BitVec.ofNat 8 (4 * i * 7)) (BitVec.ofNat 8 ((4 * i + 1) * 7)) (BitVec.ofNat 8 ((4 * i + 2) * 7))
    (BitVec.ofNat 8 ((4 * i + 3) * 7))

/-- Four words `(X_i, X_(i+1), X_(i+2), X_(i+3))` of the SM4 state or key state. -/
structure Quad where
  a : Word32
  b : Word32
  c : Word32
  d : Word32
  deriving DecidableEq, Repr

/-- A block as four big-endian words (rule R280). -/
def sm4Words (b : Block) : Quad :=
  ⟨packWord b[0] b[1] b[2] b[3], packWord b[4] b[5] b[6] b[7], packWord b[8] b[9] b[10] b[11],
    packWord b[12] b[13] b[14] b[15]⟩

/-- Four words in reverse order as a block, each big-endian: `X35 ‖ X34 ‖ X33 ‖ X32` (rule R286). -/
def sm4Unwords (x : Quad) : Block :=
  wordsBlock #v[x.d, x.c, x.b, x.a]

/-- The round keys `rk_i, ...` for `count` rounds from round `i` on (rule R285). -/
def sm4Keys : (count i : Nat) → Quad → List Word32
  | 0, _, _ => []
  | count + 1, i, k =>
    let next := k.a ^^^ sm4T' (k.b ^^^ k.c ^^^ k.d ^^^ sm4CK i)
    next :: sm4Keys count (i + 1) ⟨k.b, k.c, k.d, next⟩

/-- `SM4_KeyExpansion(K)`: `rk0` to `rk31` (rule R285). -/
def sm4KeyExpansion (key : Block) : List Word32 :=
  let mk := sm4Words key
  sm4Keys 32 0 ⟨mk.a ^^^ sm4FK[0], mk.b ^^^ sm4FK[1], mk.c ^^^ sm4FK[2], mk.d ^^^ sm4FK[3]⟩

/-- One round: `X(i+4) = X_i xor T(X(i+1) xor X(i+2) xor X(i+3) xor rk_i)` (rule R286). -/
def sm4Round (x : Quad) (rk : Word32) : Quad := ⟨x.b, x.c, x.d, x.a ^^^ sm4T (x.b ^^^ x.c ^^^ x.d ^^^ rk)⟩

/-- The rounds, one for each round key in turn (rule R286). -/
def sm4Rounds : List Word32 → Quad → Quad
  | [], x => x
  | rk :: rks, x => sm4Rounds rks (sm4Round x rk)

/-- SM4 on a list of round keys (rules R286, R287). -/
def sm4With (rks : List Word32) (b : Block) : Block := sm4Unwords (sm4Rounds rks (sm4Words b))

/-- `SM4_Encrypt(K, B)` (rule R286). -/
def sm4Encrypt (key b : Block) : Block := sm4With (sm4KeyExpansion key) b

/-- `SM4_Decrypt(K, B)`: the round keys in the order `rk31` to `rk0` (rule R287). -/
def sm4Decrypt (key b : Block) : Block := sm4With (sm4KeyExpansion key).reverse b

/-- The rounds from round `i` on with a delay point at the head of each (rule R293, 43_aes_countermeasures.md
rule R221). -/
def sm4RoundsRd (delay : Nat → Nat) : Nat → List Word32 → Quad → Quad
  | _, [], x => x
  | i, rk :: rks, x => sm4RoundsRd delay (i + 1) rks (sm4Round (nop (delay i) x) rk)

/-- `SM4_Encrypt` with random delays (rule R293). -/
def sm4EncryptRd (delay : Nat → Nat) (key b : Block) : Block :=
  sm4Unwords (sm4RoundsRd delay 0 (sm4KeyExpansion key) (sm4Words b))

end Sys2Proof.Machine
end

