-- ==== Sys2Proof/Machine/Sm4.lean ====
section
/-! DEFINITION. The SM4 commands (45_sm4.md rules R290 to R293). -/

namespace Sys2Proof.Machine

/-- `SM4.ENC` (45_sm4.md rule R290). -/
def execSm4Enc (payload : Bytes 16) (s : State) : Res := blockCmd 0 (fun s => sm4Encrypt s.keySm4) payload s

/-- `SM4.DEC` (45_sm4.md rule R291). -/
def execSm4Dec (payload : Bytes 16) (s : State) : Res := blockCmd 0 (fun s => sm4Decrypt s.keySm4) payload s

/-- `SM4.KEY` (45_sm4.md rule R292). -/
def execSm4Key (payload : Bytes 16) (s : State) : Res := keyChange withKeySm4 State.keySm4 payload s

/-- `SM4.ENC.RD`: thirty-two delays, one at the head of each round (45_sm4.md rule R293). -/
def execSm4EncRd (payload : Bytes 16) (s : State) : Res :=
  blockCmd 32 (fun s => sm4EncryptRd (drawDelay s) s.keySm4) payload s

end Sys2Proof.Machine
end

