-- ==== Sys2Proof/Machine/Tdes.lean ====
section
/-! DEFINITION. The TDES commands (44_des_tdes.md rules R267 to R271). -/

namespace Sys2Proof.Machine

/-- `TDES.ENC` (44_des_tdes.md rule R267). -/
def execTdesEnc (payload : Bytes 8) (s : State) : Res := blockCmd 0 (fun s => tdesEncrypt s.keyTdes) payload s

/-- `TDES.DEC` (44_des_tdes.md rule R268). -/
def execTdesDec (payload : Bytes 8) (s : State) : Res := blockCmd 0 (fun s => tdesDecrypt s.keyTdes) payload s

/-- `TDES.KEY` (44_des_tdes.md rule R269). -/
def execTdesKey (payload : Bytes 24) (s : State) : Res := keyChange withKeyTdes State.keyTdes payload s

/-- `TDES.ENC.HW` (44_des_tdes.md rule R270). -/
def execTdesEncHw (payload : Bytes 8) (s : State) : Res := hwCmd (fun s => tdesEncrypt s.keyTdes) payload s

/-- `TDES.DEC.HW` (44_des_tdes.md rule R271). -/
def execTdesDecHw (payload : Bytes 8) (s : State) : Res := hwCmd (fun s => tdesDecrypt s.keyTdes) payload s

end Sys2Proof.Machine
end

