-- ==== Sys2Proof/Machine/Dispatch.lean ====
section
/-! DEFINITION. One arm per command: the meaning of each (30_encoding.md rule R91, `run the rule of command c`). -/

namespace Sys2Proof.Machine

def exec (i : Instr) (s : State) : Host.Outcome State Fault Refusal :=
  match i with
  | .aes128Enc payload => Sys2Proof.Machine.execAes128Enc payload s
  | .aes128Dec payload => Sys2Proof.Machine.execAes128Dec payload s
  | .aes128Key payload => Sys2Proof.Machine.execAes128Key payload s
  | .aes128EncTbl payload => Sys2Proof.Machine.execAes128EncTbl payload s
  | .aes128DecTbl payload => Sys2Proof.Machine.execAes128DecTbl payload s
  | .aes128EncHw payload => Sys2Proof.Machine.execAes128EncHw payload s
  | .aes128DecHw payload => Sys2Proof.Machine.execAes128DecHw payload s
  | .aes128EncMt payload => Sys2Proof.Machine.execAes128EncMt payload s
  | .aes128EncMtp payload => Sys2Proof.Machine.execAes128EncMtp payload s
  | .aes128EncMb payload => Sys2Proof.Machine.execAes128EncMb payload s
  | .aes128EncMbx payload => Sys2Proof.Machine.execAes128EncMbx payload s
  | .aes128EncRd payload => Sys2Proof.Machine.execAes128EncRd payload s
  | .aes128EncRs payload => Sys2Proof.Machine.execAes128EncRs payload s
  | .aes128EncMa payload => Sys2Proof.Machine.execAes128EncMa payload s
  | .aes128EncDc payload => Sys2Proof.Machine.execAes128EncDc payload s
  | .aes256Enc payload => Sys2Proof.Machine.execAes256Enc payload s
  | .aes256Dec payload => Sys2Proof.Machine.execAes256Dec payload s
  | .aes256Key payload => Sys2Proof.Machine.execAes256Key payload s
  | .aes256EncHw payload => Sys2Proof.Machine.execAes256EncHw payload s
  | .aes256DecHw payload => Sys2Proof.Machine.execAes256DecHw payload s
  | .aes256EncMt payload => Sys2Proof.Machine.execAes256EncMt payload s
  | .aes256EncMb payload => Sys2Proof.Machine.execAes256EncMb payload s
  | .desEnc payload => Sys2Proof.Machine.execDesEnc payload s
  | .desDec payload => Sys2Proof.Machine.execDesDec payload s
  | .desKey payload => Sys2Proof.Machine.execDesKey payload s
  | .desEncRd payload => Sys2Proof.Machine.execDesEncRd payload s
  | .desEncRs payload => Sys2Proof.Machine.execDesEncRs payload s
  | .desEncMa payload => Sys2Proof.Machine.execDesEncMa payload s
  | .desEncDc payload => Sys2Proof.Machine.execDesEncDc payload s
  | .tdesEnc payload => Sys2Proof.Machine.execTdesEnc payload s
  | .tdesDec payload => Sys2Proof.Machine.execTdesDec payload s
  | .tdesKey payload => Sys2Proof.Machine.execTdesKey payload s
  | .tdesEncHw payload => Sys2Proof.Machine.execTdesEncHw payload s
  | .tdesDecHw payload => Sys2Proof.Machine.execTdesDecHw payload s
  | .sm4Enc payload => Sys2Proof.Machine.execSm4Enc payload s
  | .sm4Dec payload => Sys2Proof.Machine.execSm4Dec payload s
  | .sm4Key payload => Sys2Proof.Machine.execSm4Key payload s
  | .sm4EncRd payload => Sys2Proof.Machine.execSm4EncRd payload s
  | .rsacrt len payload => Sys2Proof.Machine.execRsacrt len payload s
  | .rsasfm len payload => Sys2Proof.Machine.execRsasfm len payload s
  | .rsasfmRd len payload => Sys2Proof.Machine.execRsasfmRd len payload s
  | .rsacrtDc len payload => Sys2Proof.Machine.execRsacrtDc len payload s
  | .pwdChk1 payload => Sys2Proof.Machine.execPwdChk1 payload s
  | .pwdChk2 payload => Sys2Proof.Machine.execPwdChk2 payload s
  | .pwdSet payload => Sys2Proof.Machine.execPwdSet payload s
  | .fi0 => Sys2Proof.Machine.execFi0 s
  | .fi1 => Sys2Proof.Machine.execFi1 s
  | .fi2 => Sys2Proof.Machine.execFi2 s
  | .fi3 => Sys2Proof.Machine.execFi3 s
  | .fi4 => Sys2Proof.Machine.execFi4 s
  | .fi5 => Sys2Proof.Machine.execFi5 s
  | .fi6 => Sys2Proof.Machine.execFi6 s
  | .fi7 => Sys2Proof.Machine.execFi7 s
  | .fi8 => Sys2Proof.Machine.execFi8 s
  | .fi9 => Sys2Proof.Machine.execFi9 s
  | .fi10 => Sys2Proof.Machine.execFi10 s
  | .fi11 => Sys2Proof.Machine.execFi11 s
  | .fi12 => Sys2Proof.Machine.execFi12 s
  | .fi13 => Sys2Proof.Machine.execFi13 s
  | .fi14 => Sys2Proof.Machine.execFi14 s
  | .fi15 => Sys2Proof.Machine.execFi15 s
  | .unknown op => Sys2Proof.Machine.execUnknown op s

end Sys2Proof.Machine
end

