-- ==== Sys2Proof/Machine/Step.lean ====
section
/-! DEFINITION. One step of the core (10_state.md rule R31, 30_encoding.md rules R91 to R93): the reset sequence in `BOOT`,
one whole dispatcher iteration in `AWAIT_OPCODE`, none in `HALTED`. -/

namespace Sys2Proof.Machine

/-- One step. In `AWAIT_OPCODE` the iteration is one atomic step, enabled when the whole frame is waiting (rule R93). -/
def step (s : State) : Host.Outcome State Fault Refusal :=
  match s.seq with
  | .boot => .next (bootSequence s)
  | .halted => .fault .haltedForEver
  | .awaitOpcode =>
    match decode s.rx with
    | .ok i rest => exec i (beginIteration rest s)
    | .incomplete => .fault .awaitingBytes

/-- The state `s` in which the host has sent the frame of the opcode-table word `w` ahead of everything else, and the
core awaits an opcode: the next step runs that instruction. The host's bytes are the program (00_scope.md rule R2;
notes/assumptions/8.md). -/
def State.withFetchWord (s : State) (nbits w : Nat) : State :=
  { s with rx := tableFrame nbits w ++ s.rx, seq := .awaitOpcode }

end Sys2Proof.Machine
end

