-- ==== Sys2Proof/Safety.lean ====
section
/-! DEFINITION. The terms in which claims about the core are made: what a completed command leaves, what holds between
commands, and the discipline of the trigger window. -/

namespace Sys2Proof.Machine

/-! ### What a completed command leaves -/

/-- The effect of one command on everything but the registers that it writes by name: the bytes that its handler took
from the transport, the contents of the scratch buffer it leaves, whether it opened and closed a trigger window, the
bytes it sent, and the number of its draws (00_scope.md rule R15, the *Trace* of a command). -/
structure Effect where
  received : List Byte
  scratch : Memory
  window : Bool
  sent : List Byte
  draws : Nat

/-- The events of a command's handler: the `Rx` events of its payload, the bracket, the `Tx` events of its response
(40_trigger.md rule R133). -/
def Effect.events (e : Effect) : List Event :=
  e.received.map .rx ++ (if e.window then [.trigRise, .trigFall] else []) ++ e.sent.map .tx

/-- The state that a completed command leaves, where it started in `s` (with the registers that it writes by name already
written): `CPOS` is past the bytes received, the core awaits the next opcode, and everything that `e` does not name is as
it was. -/
def completed (s : State) (e : Effect) : State :=
  { s with
    scr := e.scratch
    cpos := s.cpos + e.received.length
    trace := s.trace ++ e.events
    seq := .awaitOpcode
    draws := s.draws.drop e.draws
    drawIx := s.drawIx + e.draws
    env := s.env.tail }

/-- The scratch buffer of a fixed-block command: the payload from `IN_OFF` and the output from `OUT_OFF` (20_memory.md
rule R61). -/
def blockScratch (m : Memory) (payload out : List Byte) : Memory :=
  storeBytes (storeBytes m Config.inOff payload) Config.outOff out

/-- The effect of a bracketing fixed-block command that answers: the trace of 42_aes_commands.md rule R190. -/
def blockEffect (s : State) (payload out : List Byte) (draws : Nat) : Effect :=
  ⟨payload, blockScratch s.scr payload out, true, out, draws⟩

/-- The effect of a command that receives a payload and echoes it without a bracket (42_aes_commands.md rule R192). -/
def echoEffect (s : State) (payload : List Byte) : Effect :=
  ⟨payload, storeBytes s.scr Config.inOff payload, false, payload, 0⟩

/-- The effect of an RSA command with result `out`, of which `sent` is sent: the result lies over the operand (46_rsa.md
rule R306). -/
def rsaEffect (s : State) (len : BitVec 16) (payload out sent : List Byte) (draws : Nat) : Effect :=
  ⟨varReceived len payload, storeBytes (storeBytes s.scr Config.inOff payload) Config.inOff out, true, sent, draws⟩

/-- The state that a scenario of the fault-injection catalogue leaves when control survives: the opcode `op` is echoed
inside the bracket, and the core awaits the next opcode (93_implementation_defined.md U5). -/
def scenarioSurvived (op : Byte) (s : State) : State :=
  { s with
    seq := .awaitOpcode
    trace := s.trace ++ [.trigRise, .tx op, .trigFall]
    draws := s.draws.drop 1
    drawIx := s.drawIx + 1
    env := s.env.tail }

/-- The state that a scenario of the fault-injection catalogue leaves when it crashes: the fault path inside the bracket,
with the trigger line asserted (93_implementation_defined.md U5, 40_trigger.md rule R141). -/
def scenarioCrashed (s : State) : State :=
  { s with
    trig := true
    faultpin := true
    seq := .halted
    trace := s.trace ++ [.trigRise, .faultMark]
    draws := s.draws.drop 1
    drawIx := s.drawIx + 1 }

/-! ### What a command names -/

/-- The number of payload bytes of a command's frame: the frame without its opcode and its length field (30_encoding.md
rules R90 and R93). -/
def payloadLen : Instr → Nat
  | .rsacrt len _ => min len.toNat Config.scrCap
  | .rsasfm len _ => min len.toNat Config.scrCap
  | .rsasfmRd len _ => min len.toNat Config.scrCap
  | .rsacrtDc len _ => min len.toNat Config.scrCap
  | i => frameLen i - 1

/-- The length of the output region from `OUT_OFF` upward that a command writes: a block for a fixed-block cipher command,
nothing for the others (20_memory.md rule R61). -/
def outputLen : Instr → Nat
  | .aes128Enc _ | .aes128Dec _ | .aes128EncTbl _ | .aes128DecTbl _ | .aes128EncHw _ | .aes128DecHw _ | .aes128EncMt _
  | .aes128EncMtp _ | .aes128EncMb _ | .aes128EncMbx _ | .aes128EncRd _ | .aes128EncRs _ | .aes128EncMa _
  | .aes128EncDc _ | .aes256Enc _ | .aes256Dec _ | .aes256EncHw _ | .aes256DecHw _ | .aes256EncMt _ | .aes256EncMb _
  | .sm4Enc _ | .sm4Dec _ | .sm4EncRd _ => 16
  | .desEnc _ | .desDec _ | .desEncRd _ | .desEncRs _ | .desEncMa _ | .desEncDc _ | .tdesEnc _ | .tdesDec _
  | .tdesEncHw _ | .tdesDecHw _ => 8
  | .aes128Key _ | .aes256Key _ | .desKey _ | .tdesKey _ | .sm4Key _ | .rsacrt _ _ | .rsasfm _ _ | .rsasfmRd _ _
  | .rsacrtDc _ _ | .pwdChk1 _ | .pwdChk2 _ | .pwdSet _ | .fi0 | .fi1 | .fi2 | .fi3 | .fi4 | .fi5 | .fi6 | .fi7 | .fi8
  | .fi9 | .fi10 | .fi11 | .fi12 | .fi13 | .fi14 | .fi15 | .unknown _ => 0

/-- The opcode byte of a command: the first byte of its frame (20_memory.md rule R64). -/
def opcodeOf (i : Instr) : Byte := (encode i).headD 0#8

/-- Whether an instruction is an opcode alone, format `F0`, and so none of the 45 commands (30_encoding.md rules R90,
R100, R102). -/
def isBareOpcode : Instr → Bool
  | .fi0 | .fi1 | .fi2 | .fi3 | .fi4 | .fi5 | .fi6 | .fi7 | .fi8 | .fi9 | .fi10 | .fi11 | .fi12 | .fi13 | .fi14 | .fi15
  | .unknown _ => true
  | _ => false

/-- Whether an instruction runs a scenario of the fault-injection catalogue on a device of configuration `cfg`
(30_encoding.md rules R92 and R107). -/
def runsScenario (cfg : Config) (i : Instr) : Bool := isBareOpcode i && cfg.fiOpcodes.contains (opcodeOf i)

/-- Whether an instruction is the opcode of an external collaborator (30_encoding.md rules R92 and R108). -/
def isExternal (cfg : Config) (i : Instr) : Bool :=
  isBareOpcode i && !cfg.fiOpcodes.contains (opcodeOf i) && cfg.extOpcodes.contains (opcodeOf i)

/-- Whether an instruction is an unknown opcode (30_encoding.md rules R92 and R102). -/
def isUnknown (cfg : Config) (i : Instr) : Bool :=
  isBareOpcode i && !cfg.fiOpcodes.contains (opcodeOf i) && !cfg.extOpcodes.contains (opcodeOf i)

/-- Whether a command is an RSA command, the only format whose operand has a domain (46_rsa.md rule R302). -/
def isRsa : Instr → Bool
  | .rsacrt _ _ | .rsasfm _ _ | .rsasfmRd _ _ | .rsacrtDc _ _ => true
  | _ => false

/-- The payload of an RSA command. -/
def rsaOperandBytes : Instr → List Byte
  | .rsacrt _ payload | .rsasfm _ payload | .rsasfmRd _ payload | .rsacrtDc _ payload => payload
  | _ => []

/-- Whether a command is hardware-backed (60_exceptions.md rule R343). -/
def isHardwareBacked : Instr → Bool
  | .aes128EncHw _ | .aes128DecHw _ | .aes256EncHw _ | .aes256DecHw _ | .tdesEncHw _ | .tdesDecHw _ => true
  | _ => false

/-- Whether a command is a password command, the only kind that writes a session flag (10_state.md rule R33). -/
def isPasswordCommand : Instr → Bool
  | .pwdChk1 _ | .pwdChk2 _ | .pwdSet _ => true
  | _ => false

/-- Whether a command is a double computation (43_aes_countermeasures.md rule R226). -/
def isDoubleComputation : Instr → Bool
  | .aes128EncDc _ | .desEncDc _ | .rsacrtDc _ _ => true
  | _ => false

/-- Whether nothing keeps a command from answering as its cipher does: the accelerator, where the command needs it, answers
(42_aes_commands.md rule R197), and a double computation is not perturbed (43_aes_countermeasures.md rule R226). -/
def unhindered (i : Instr) (s : State) : Prop :=
  (isHardwareBacked i = true → accelerates s = true) ∧
  (isDoubleComputation i = true → ∀ n, fault1 n s = zeroBytes n ∧ fault2 n s = zeroBytes n)

/-! ### The forms of the block ciphers -/

/-- The commands that encrypt the block `p` under `KEY_AES128`; `m` is the mask of the one that is sent a mask
(42_aes_commands.md rule R206). -/
def aes128Encryptions (p m : Block) : List Instr :=
  [.aes128Enc p, .aes128EncTbl p, .aes128EncHw p, .aes128EncMt p, .aes128EncMtp p, .aes128EncMb p] ++
  [.aes128EncMbx (p ++ m), .aes128EncRd p, .aes128EncRs p, .aes128EncMa p, .aes128EncDc p]

/-- The commands that decrypt the block `c` under `KEY_AES128` (42_aes_commands.md rule R206). -/
def aes128Decryptions (c : Block) : List Instr := [.aes128Dec c, .aes128DecTbl c, .aes128DecHw c]

/-- The commands that encrypt the block `p` under `KEY_AES256` (42_aes_commands.md rule R206). -/
def aes256Encryptions (p : Block) : List Instr := [.aes256Enc p, .aes256EncHw p, .aes256EncMt p, .aes256EncMb p]

/-- The commands that decrypt the block `c` under `KEY_AES256` (42_aes_commands.md rule R206). -/
def aes256Decryptions (c : Block) : List Instr := [.aes256Dec c, .aes256DecHw c]

/-- The commands that encrypt the block `b` under `KEY_DES` (44_des_tdes.md rule R256). -/
def desEncryptions (b : Bytes 8) : List Instr := [.desEnc b, .desEncRd b, .desEncRs b, .desEncMa b, .desEncDc b]

/-- The command that decrypts the block `c` under `KEY_DES` (44_des_tdes.md rule R256). -/
def desDecryptions (c : Bytes 8) : List Instr := [.desDec c]

/-- The commands that encrypt the block `b` under `KEY_TDES` (44_des_tdes.md rule R256). -/
def tdesEncryptions (b : Bytes 8) : List Instr := [.tdesEnc b, .tdesEncHw b]

/-- The commands that decrypt the block `c` under `KEY_TDES` (44_des_tdes.md rule R256). -/
def tdesDecryptions (c : Bytes 8) : List Instr := [.tdesDec c, .tdesDecHw c]

/-- The commands that encrypt the block `b` under `KEY_SM4` (45_sm4.md rule R294). -/
def sm4Encryptions (b : Block) : List Instr := [.sm4Enc b, .sm4EncRd b]

/-- The command that decrypts the block `c` under `KEY_SM4` (45_sm4.md rule R294). -/
def sm4Decryptions (c : Block) : List Instr := [.sm4Dec c]

/-- The command answers as its cipher does: from `s` it goes to `t`, and after its payload it has one window and then the
bytes `out` (42_aes_commands.md rule R190). -/
def Answers (i : Instr) (s : State) (out : List Byte) (t : State) : Prop :=
  exec i s = .next t ∧ t.trace = s.trace ++ ((encode i).drop 1).map .rx ++ [.trigRise, .trigFall] ++ out.map .tx

/-- The round trip on the wire of one block: whichever of the commands `encrypt` is sent, it answers a block, and
whichever of the commands `decrypt` of that block is sent next, it answers `b`. -/
def RoundTrips {n : Nat} (s : State) (b : Bytes n) (encrypt : List Instr) (decrypt : Bytes n → List Instr) : Prop :=
  ∀ i ∈ encrypt, unhindered i s →
    ∃ (t : State) (c : Bytes n), Answers i s c.toList t ∧
      ∀ j ∈ decrypt c, unhindered j t → ∃ u, Answers j t b.toList u

/-! ### What holds between commands -/

/-- What holds of every state that the core comes to (10_state.md rules R28, R36, R38 and R39): the scratch buffer is in
canonical form, `PLEN` has a legal value; in `AWAIT_OPCODE` the trigger line is low, the AES-256 schedule is that of the
AES-256 key and the fault pin is unmarked; in `HALTED` it is marked. -/
structure Inv (s : State) : Prop where
  scr_wf : Memory.wf s.scr
  plen_le : s.plen.toNat ≤ Config.scrCap
  trig_low : s.seq = .awaitOpcode → s.trig = false
  schedule : s.seq = .awaitOpcode → s.rk256 = packSchedule (aesKeyExpansion 8 s.keyAes256)
  pin_clear : s.seq = .awaitOpcode → s.faultpin = false
  pin_marked : s.seq = .halted → s.faultpin = true

/-- The level of the trigger line after one more event; none where the event may not happen at that level: a rise while
the line is high, a fall while it is low, a byte received or sent inside a window (40_trigger.md rules R131 to R134). Only
the bytes `echoes` may be sent inside one: none for the commands of 30_encoding.md rule R100; for a device that runs
scenarios, their opcodes (93_implementation_defined.md U5). -/
def windowStep (echoes : List Byte) (level : Bool) : Event → Option Bool
  | .trigRise => if level then none else some true
  | .trigFall => if level then some false else none
  | .rx _ => if level then none else some false
  | .tx b => if level && !echoes.contains b then none else some level
  | .faultMark => some level

/-- The level of the trigger line after a trace that keeps the discipline of the window; none for a trace that breaks it. -/
def windowLevel (echoes : List Byte) (level : Bool) : List Event → Option Bool
  | [] => some level
  | e :: es =>
    match windowStep echoes level e with
    | some level' => windowLevel echoes level' es
    | none => none

/-- What holds of the trace of every state that the core comes to: `TrigRise` and `TrigFall` alternate, starting with
`TrigRise`, no byte passes inside a window but the echo of an opcode of `FI_OPCODES`, and the line has the level that the trace says, low in `AWAIT_OPCODE`
(40_trigger.md rules R133 and R134); in `BOOT` there is no event yet (70_reset_and_hazards.md rule R380). -/
structure WindowInv (s : State) : Prop where
  trace_level : s.seq ≠ .boot → windowLevel s.cfg.fiOpcodes false s.trace = some s.trig
  boot_silent : s.seq = .boot → s.trace = []
  trig_low : s.seq = .awaitOpcode → s.trig = false

/-- `CPOS` is the number of bytes taken from the transport since reset (10_state.md rule R32). -/
def rxCount (es : List Event) : Nat := (es.filter fun e => match e with | .rx _ => true | _ => false).length

end Sys2Proof.Machine
end

