-- ==== Sys2Proof/Certificates/Slice0/Obligations.lean ====
section
/-! DEFINITION. The statements for the provers. Each is a claim about the machine, taken from the numbered rules of the
spec; its docstring names the rules, and the log entry where it rests on a choice of the model. -/

open Sys2Proof Sys2Proof.Machine

/-! ### Encoding -/

/-- A few words of the opcode table, written out from 30_encoding.md rules R90 and R100, decode to the instruction they
stand for: byte `j` of the frame is bits `8j+7..8j` of the word. -/
def Obligations.TableWordsDecode : Prop :=
  decodeTableWord 40 0x3433323170 = some (.pwdChk1 #v[0x31, 0x32, 0x33, 0x34]) ∧
  decodeTableWord 72 0xEFCDAB896745230130 = some (.desEnc #v[0x01, 0x23, 0x45, 0x67, 0x89, 0xAB, 0xCD, 0xEF]) ∧
  decodeTableWord 72 0xEFCDAB896745230145 = some (.tdesEncHw #v[0x01, 0x23, 0x45, 0x67, 0x89, 0xAB, 0xCD, 0xEF]) ∧
  decodeTableWord 136 0xFFEEDDCCBBAA9988776655443322110010 = some (.aes128Enc #v[0x00, 0x11, 0x22, 0x33, 0x44, 0x55,
    0x66, 0x77, 0x88, 0x99, 0xAA, 0xBB, 0xCC, 0xDD, 0xEE, 0xFF]) ∧
  decodeTableWord 136 0xFFEEDDCCBBAA9988776655443322110051 = some (.sm4Dec #v[0x00, 0x11, 0x22, 0x33, 0x44, 0x55,
    0x66, 0x77, 0x88, 0x99, 0xAA, 0xBB, 0xCC, 0xDD, 0xEE, 0xFF]) ∧
  decodeTableWord 8 0x60 = some (.rsacrt 0 []) ∧
  decodeTableWord 40 0xBBAA02006F = some (.rsacrtDc 2 [0xAA, 0xBB]) ∧
  decodeTableWord 8 0xE3 = some .fi3 ∧
  decodeTableWord 8 0x17 = some (.unknown 0x17)

/-- Decoding the frame of a well-formed command gives the command back, with every payload byte and every length, and
leaves exactly the bytes after the frame (30_encoding.md rules R90, R93, R95, R96). -/
def Obligations.DecodeEncode : Prop :=
  ∀ (i : Instr) (rest : List Byte), i.wf = true → decode (encode i ++ rest) = .ok i rest

/-- Whatever bytes decode, they are the frame of the command read, which is well formed, and the bytes that follow: no
bit of a frame is dropped and no two commands share a frame (30_encoding.md rules R90, R94, R109). -/
def Obligations.EncodeDecode : Prop :=
  ∀ (bs rest : List Byte) (i : Instr), decode bs = .ok i rest → i.wf = true ∧ encode i ++ rest = bs

/-- No two live commands share an opcode, those of the fault-injection catalogue's default set included; and where the
configuration is well formed, no command of the map has an opcode of the sets `FI_OPCODES` and `EXT_OPCODES`
(30_encoding.md rule R99, for the default map, which 00_scope.md rule R9 lets a model take as a constant). -/
def Obligations.OpcodeMapInjective : Prop :=
  (∀ i j : Instr, i.wf = true → j.wf = true → opcodeOf i = opcodeOf j → i.ctorIdx = j.ctorIdx) ∧
  ∀ cfg : Config, cfg.WF → ∀ i : Instr, isBareOpcode i = false →
    opcodeOf i ∉ cfg.fiOpcodes ∧ opcodeOf i ∉ cfg.extOpcodes

/-- The opcodes outside the map are the 195 values that 30_encoding.md rule R102 lists; each takes no payload, so the byte
after it starts the next frame. -/
def Obligations.UnknownOpcodesAreTheRest : Prop :=
  (∀ (op : Byte) (rest : List Byte), isUnknownOpcode op = true ↔ decode (op :: rest) = .ok (.unknown op) rest) ∧
  ((List.range 256).filter fun n => isUnknownOpcode (BitVec.ofNat 8 n)).length = 195

/-- A variable frame: `L = 256*hi + lo`, and exactly `min(L, 168)` bytes after the length field are payload; the bytes
after them stay in the transport, also those that a longer declared length promised (30_encoding.md rules R96, R97 and
R98; the reading of R97 is the spec's decision D6, notes/assumptions/11.md). -/
def Obligations.VariableFrameIsClipped : Prop :=
  ∀ (hi lo : Byte) (bs : List Byte),
    let L := 256 * hi.toNat + lo.toNat
    let n := min L 168
    let frame := fun (make : BitVec 16 → List Byte → Instr) =>
      if n ≤ bs.length then DecodeResult.ok (make (BitVec.ofNat 16 L) (bs.take n)) (bs.drop n) else .incomplete
    decode (0x60 :: hi :: lo :: bs) = frame .rsacrt ∧
    decode (0x61 :: hi :: lo :: bs) = frame .rsasfm ∧
    decode (0x6C :: hi :: lo :: bs) = frame .rsasfmRd ∧
    decode (0x6F :: hi :: lo :: bs) = frame .rsacrtDc

/-- A frame that is complete is read the same whatever the host sends after it: no later byte changes what an earlier
fetch returned (20_memory.md rules R67 and R77). -/
def Obligations.LaterBytesDoNotChangeAFrame : Prop :=
  ∀ (bs more rest : List Byte) (i : Instr), decode bs = .ok i rest → decode (bs ++ more) = .ok i (rest ++ more)

/-! ### The step -/

/-- A step runs the decoded instruction: where the core awaits an opcode and the waiting bytes start with the frame of
`i`, the step is `exec i` at the state in which the dispatcher has zeroed the scratch buffer and `PLEN`, has taken the
opcode byte, and the frame has left the transport (30_encoding.md rule R91). -/
def Obligations.StepRunsDecoded : Prop :=
  ∀ (s : State) (i : Instr) (op : Byte) (tail rest : List Byte),
    s.seq = .awaitOpcode → s.rx = op :: tail → decode s.rx = .ok i rest →
    step s = exec i { s with
      scr := [], plen := 0, cpos := s.cpos + 1, trace := s.trace ++ [.rx op], rx := rest } ∧
    ∀ a, memByte ([] : Memory) a = 0

/-- While no whole frame is waiting the core has no step (93_implementation_defined.md U7), and whatever is waiting, some
further bytes complete the frame: there is no resynchronisation, the next bytes sent complete the pending frame
(70_reset_and_hazards.md rule R392, 20_memory.md rule R67). -/
def Obligations.WaitsForTheWholeFrame : Prop :=
  (∀ s : State, s.seq = .awaitOpcode → decode s.rx = .incomplete → step s = .fault .awaitingBytes) ∧
  ∀ bs : List Byte, decode bs = .incomplete → ∃ (more : List Byte) (i : Instr), decode (bs ++ more) = .ok i []

/-- `HALTED` is left by a power cycle and by nothing else: no step is enabled, also not after the host has sent more
bytes; after a power cycle the reset sequence runs, the core awaits an opcode and the fault pin is clear (60_exceptions.md
rule R352). That the absence of a step is a fault of the model is notes/assumptions/9.md; that a power cycle begins a new
trace and that the bytes waiting after it are a parameter is notes/assumptions/16.md: the model's choices. -/
def Obligations.HaltedUntilPowerCycle : Prop :=
  ∀ (s : State) (bs : List Byte) (strap : Bool) (counter : Nat), s.seq = .halted →
    step s = .fault .haltedForEver ∧ step (hostSend bs s) = .fault .haltedForEver ∧
    ∃ t, step (powerCycle strap counter bs s) = .next t ∧ t.seq = .awaitOpcode ∧ t.faultpin = false ∧ t.trig = false ∧
      t.rx = bs ∧ t.trace = []

/-- The reset sequence: from `BOOT`, one step sets every register that steps 2 to 8 of 70_reset_and_hazards.md rule R380
name (the pins, the keys, the password, the AES-256 schedule, the session flags, the sequencer), `GLITCHED` exactly when
the boot loop ended at another counter than expected (rule R384), with no event, and changes nothing else. Nothing
survives a power cycle (10_state.md rule R44, 60_exceptions.md rule R361): the state reached after one is that of a
freshly reset device of the same configuration, whatever the state was before. That the step leaves `SCR` and `PLEN`, to
which the spec gives no reset value, as they are, that the power cycle has made them zero, that it begins a new trace and
leaves the environment's inputs to come, are the model's choices (notes/assumptions/4.md and 16.md). -/
def Obligations.ResetSequence : Prop :=
  (∀ s : State, s.seq = .boot →
    ∃ (schedule : Bytes 240) (glitched : Bool),
      step s = .next { s with
        xsel := s.strap, trig := false, faultpin := false, keyDes := s.cfg.defKeyDes, keyTdes := s.cfg.defKeyTdes,
        keyAes128 := s.cfg.defKeyAes128, keyAes256 := s.cfg.defKeyAes256, keySm4 := s.cfg.defKeySm4,
        pwd := s.cfg.defPwd, rk256 := schedule, auth := false, glitched := glitched, cpos := 0,
        seq := .awaitOpcode } ∧
      (∀ (r : Fin 15) (i : Fin 16), schedule[16 * r.val + i.val]'(by omega) =
        ((aesKeyExpansion 8 s.cfg.defKeyAes256).getD r.val (zeroBytes 16))[i]) ∧
      (glitched = true ↔ s.bootCounter ≠ s.cfg.bootLoopExpect)) ∧
  ∀ (s : State) (strap : Bool) (counter : Nat) (bs : List Byte),
    step (powerCycle strap counter bs s) = .next { State.resetWith s.cfg strap (decide (counter ≠ s.cfg.bootLoopExpect))
      with bootCounter := counter, rx := bs, draws := s.draws, drawIx := s.drawIx, env := s.env }

/-- The values after reset that 10_state.md rule R44 states (`SCR` and `PLEN` are unspecified there), and that the reset
state is what the reset sequence makes of a power-up without fault injection. The last clause compares whole states: that
`SCR` and `PLEN` are then zero (notes/assumptions/4.md), and that a power cycle clears them, begins a new trace, holds the
bytes it is given and leaves the environment's inputs to come (notes/assumptions/16.md), are the model's choices. -/
def Obligations.ResetState : Prop :=
  let r := State.reset
  r.keyDes = r.cfg.defKeyDes ∧ r.keyTdes = r.cfg.defKeyTdes ∧ r.keyAes128 = r.cfg.defKeyAes128 ∧
  r.keyAes256 = r.cfg.defKeyAes256 ∧ r.keySm4 = r.cfg.defKeySm4 ∧ r.pwd = r.cfg.defPwd ∧
  r.rk256 = packSchedule (aesKeyExpansion 8 r.cfg.defKeyAes256) ∧ r.auth = false ∧ r.glitched = false ∧
  r.seq = .awaitOpcode ∧ r.cpos = 0 ∧ r.xsel = r.strap ∧ r.trig = false ∧ r.faultpin = false ∧ r.trace = [] ∧
  step (powerCycle r.strap r.cfg.bootLoopExpect [] r) = .next r

/-- The invariants hold of the reset state. The clauses of `Inv` about `SCR` (canonical form) and `PLEN` (at most 168)
rest there on the model's choice of zero for the two, to which 10_state.md rule R44 gives no value
(notes/assumptions/4.md, unsafe); the others rest on values that rule R44 states. -/
def Obligations.ResetKeepsInvariants : Prop := Inv State.reset ∧ WindowInv State.reset

/-- Every step keeps the invariant: the scratch buffer in canonical form, `PLEN` at most 168; between commands the trigger
line low, the fault pin clear and `RK256 = AES_KeyExpansion(KEY_AES256)`; in `HALTED` the fault pin marked (10_state.md
rules R28, R36, R38, R39). For the commands of the fault-injection catalogue, which are the ones that halt, this is the
model's choice (notes/assumptions/10.md). -/
def Obligations.StepKeepsInv : Prop := ∀ s t : State, Inv s → step s = .next t → Inv t

/-- Every step keeps the discipline of the trigger window: in the trace `TrigRise` and `TrigFall` alternate, starting with
`TrigRise`, and no byte is received inside a window, nor sent but the echo of an opcode of `FI_OPCODES`: none at all where
that set is empty. An iteration of any command but a scenario of the fault-injection catalogue neither receives nor sends
a byte inside a window, whatever the set, and leaves none open (40_trigger.md rules R133 and R134). For the commands of the
catalogue (one window, the echo inside it, or a crash inside it) this is the model's choice (notes/assumptions/10.md). -/
def Obligations.StepKeepsWindow : Prop :=
  (∀ s t : State, WindowInv s → step s = .next t → WindowInv t) ∧
  ∀ (s t : State) (i : Instr) (rest : List Byte), s.seq = .awaitOpcode → decode s.rx = .ok i rest →
    runsScenario s.cfg i = false → step s = .next t →
    ∃ es, t.trace = s.trace ++ es ∧ windowLevel [] false es = some false

/-- From a state of the invariant the core is stuck for two reasons only: it waits for bytes or it has halted. No
precondition of the trigger operations is violated and no access leaves the scratch buffer (40_trigger.md rule R134,
20_memory.md rule R60, 60_exceptions.md rule R340). That the two are faults of the model, which change nothing, is
notes/assumptions/9.md; that no command of the fault-injection catalogue is stuck is the model's choice
(notes/assumptions/10.md). -/
def Obligations.OnlyStuckWaitingOrHalted : Prop :=
  ∀ (s : State) (f : Fault), Inv s → step s = .fault f → f = .awaitingBytes ∨ f = .haltedForEver

/-- The machine refuses two things only: an RSA operand outside the domain (60_exceptions.md rule R340, 46_rsa.md rule
R302), and an opcode of an external collaborator, that is, one outside the map that the configuration has in
`EXT_OPCODES` and not in `FI_OPCODES`; such an opcode is always refused (30_encoding.md rules R92 and R108). That the
opcodes of the fault-injection catalogue are not among the refused ones is the model's choice where rules R107 and R109
would refuse them (notes/assumptions/10.md); that the device of `State.reset` has no external opcodes is the default of
rule R108 (notes/assumptions/18.md). -/
def Obligations.OnlyRsaOperandsAndExternalOpcodesAreRefused : Prop :=
  (∀ (s : State) (r : Refusal), step s = .refused r →
    (r = .rsaOperandOutsideDomain ∧
      ∃ i rest, decode s.rx = .ok i rest ∧ isRsa i = true ∧
        ((rsaOperandBytes i).length ≠ s.cfg.rsa.k ∨ s.cfg.rsa.n ≤ beValue (rsaOperandBytes i) ∨
          rsaOperandBytes i = [])) ∨
    ∃ op rest, r = .externalOpcode op ∧ s.rx = op :: rest ∧ op ∉ commandOpcodes ∧ op ∉ s.cfg.fiOpcodes ∧
      op ∈ s.cfg.extOpcodes) ∧
  ∀ (s : State) (op : Byte) (rest : List Byte), s.seq = .awaitOpcode → s.rx = op :: rest → op ∉ commandOpcodes →
    op ∉ s.cfg.fiOpcodes → op ∈ s.cfg.extOpcodes → step s = .refused (.externalOpcode op)

/-- The core halts in one way only: an opcode outside the map that the configuration has in `FI_OPCODES`, whose scenario
crashes (60_exceptions.md rules R344 and R351; that a scenario may crash, by a draw, is the option of
93_implementation_defined.md U5 that the model takes, notes/assumptions/10.md). -/
def Obligations.HaltsOnlyInTheCatalogue : Prop :=
  ∀ s t : State, step s = .next t → t.seq = .halted →
    ∃ op rest, s.seq = .awaitOpcode ∧ s.rx = op :: rest ∧ op ∉ commandOpcodes ∧ op ∈ s.cfg.fiOpcodes ∧
      drawBool s 0 = false

/-- A dispatcher iteration takes exactly its frame from the transport: `CPOS` advances by the length of the frame, the
frame's bytes are the iteration's `Rx` events, in order and before every other event, and the trace so far stands
(10_state.md rule R32, 30_encoding.md rule R93, 40_trigger.md rule R133). For the commands of the fault-injection catalogue,
which 30_encoding.md rule R107 would refuse, that they complete or crash in one iteration, with these events, is the model's
choice (notes/assumptions/10.md). -/
def Obligations.IterationTakesItsFrame : Prop :=
  ∀ (s t : State) (i : Instr) (rest : List Byte),
    s.seq = .awaitOpcode → decode s.rx = .ok i rest → step s = .next t →
    t.rx = rest ∧ t.cpos = s.cpos + frameLen i ∧
    ∃ es, t.trace = s.trace ++ (encode i).map .rx ++ es ∧ rxCount es = 0

/-! ### Frames of all commands -/

/-- Each key register, the password and the AES-256 schedule are written by their own change command, with the bytes
received, and by no other command (10_state.md rules R21, R26 and R28). That no command of the fault-injection catalogue
writes them is the model's choice (notes/assumptions/10.md, unsafe). -/
def Obligations.KeysWrittenByTheirCommands : Prop :=
  ∀ (i : Instr) (s t : State), i.wf = true → exec i s = .next t →
    t.keyDes = (match i with | .desKey k => k | _ => s.keyDes) ∧
    t.keyTdes = (match i with | .tdesKey k => k | _ => s.keyTdes) ∧
    t.keyAes128 = (match i with | .aes128Key k => k | _ => s.keyAes128) ∧
    t.keyAes256 = (match i with | .aes256Key k => k | _ => s.keyAes256) ∧
    t.keySm4 = (match i with | .sm4Key k => k | _ => s.keySm4) ∧
    t.pwd = (match i with | .pwdSet w => w | _ => s.pwd) ∧
    t.rk256 = (match i with | .aes256Key k => packSchedule (aesKeyExpansion 8 k) | _ => s.rk256)

/-- What no command writes: `GLITCHED`, `XSEL`, the configuration, and what belongs to the next power-up (10_state.md rules
R20, R34, R37); what only a scenario of the fault-injection catalogue changes: the fault pin, `SEQ` and, over a whole
command, `TRIG` (60_exceptions.md rule R351, 40_trigger.md rule R134); `PLEN` is written by the variable frames alone
(10_state.md rule R36). That a scenario changes these three and nothing else named here is the model's choice
(notes/assumptions/10.md, unsafe). -/
def Obligations.ControlStateFrame : Prop :=
  ∀ (i : Instr) (s t : State), i.wf = true → exec i s = .next t →
    t.glitched = s.glitched ∧ t.xsel = s.xsel ∧ t.cfg = s.cfg ∧ t.strap = s.strap ∧ t.bootCounter = s.bootCounter ∧
    t.rx = s.rx ∧
    (runsScenario s.cfg i = false → t.faultpin = s.faultpin ∧ t.trig = s.trig ∧ t.seq = .awaitOpcode) ∧
    t.plen = (match i with
      | .rsacrt len _ | .rsasfm len _ | .rsasfmRd len _ | .rsacrtDc len _ => BitVec.ofNat 16 (min len.toNat 168)
      | _ => s.plen)

/-- The transitions of `AUTH`, complete: the two password checks write their outcome, the password change clears it, every
other command leaves it (47_session.md rule R323); that the commands of the fault-injection catalogue leave it is the
model's choice (notes/assumptions/10.md, unsafe). -/
def Obligations.AuthTransitions : Prop :=
  ∀ (i : Instr) (s t : State), i.wf = true → exec i s = .next t →
    t.auth = (match i with
      | .pwdChk1 w => singleCheck w s.pwd (envInput s)
      | .pwdChk2 w => doubleCheck s.cfg.chkGap w s.pwd (envInput s)
      | .pwdSet _ => false
      | _ => s.auth)

/-- The session flags gate nothing but the response to an unknown opcode: every other command but the password commands
does the same whatever `AUTH` and `GLITCHED` are, and leaves them as they were (10_state.md rules R33 and R34,
60_exceptions.md rule R354). For the commands of the fault-injection catalogue this is the model's choice
(notes/assumptions/10.md, unsafe). -/
def Obligations.FlagsGateNothingElse : Prop :=
  ∀ (i : Instr) (s : State) (a g : Bool), i.wf = true → isPasswordCommand i = false →
    isUnknown s.cfg i = false → exec i { s with auth := a, glitched := g } =
      Res.andThen (exec i s) fun t => .next { t with auth := a, glitched := g }

/-- No byte of the scratch buffer is read by a command unless that command wrote it: with any other contents `m` of the
buffer before it, a command leaves the same state but for the buffer, and the same trace; in the regions of its payload
and of its output the buffer then holds the same bytes as before the change of contents, and every other byte is that of
`m` (10_state.md rule R42, 20_memory.md rule R72). For the commands of the fault-injection catalogue this is the model's
choice (notes/assumptions/10.md, unsafe). -/
def Obligations.NoStaleScratch : Prop :=
  ∀ (i : Instr) (s t : State) (m : Memory), i.wf = true → exec i s = .next t →
    ∃ m', exec i { s with scr := m } = .next { t with scr := m' } ∧
      ∀ a, memByte m' a =
        if (Config.inOff ≤ a ∧ a < Config.inOff + payloadLen i) ∨ (Config.outOff ≤ a ∧ a < Config.outOff + outputLen i)
        then memByte t.scr a else memByte m a

/-- The values of random draws do not show: with other draws, every command but the hardware-backed ones (whose draw is
the accelerator's verdict) and the fault-injection catalogue (whose outcome the model lets a draw choose,
notes/assumptions/10.md) leaves the same state but for the draws still to come, and the same trace
(93_implementation_defined.md U1, 10_state.md rule R30). -/
def Obligations.DrawsDoNotShow : Prop :=
  ∀ (i : Instr) (s t : State) (draws : List Nat) (ix : Nat), i.wf = true → isHardwareBacked i = false →
    runsScenario s.cfg i = false → exec i s = .next t →
    ∃ draws' ix', exec i { s with draws := draws, drawIx := ix } = .next { t with draws := draws', drawIx := ix' }

/-- The frame of the scratch buffer: a command changes no byte outside the region of its payload and, for a fixed-block
cipher command, the region of its output (20_memory.md rules R61 and R62; the RSA result lies over the payload). That a
scenario of the fault-injection catalogue changes no byte is the model's choice (notes/assumptions/10.md, unsafe). -/
def Obligations.ScratchFrame : Prop :=
  ∀ (i : Instr) (s t : State) (a : Nat), i.wf = true → exec i s = .next t →
    (a < Config.inOff ∨ Config.inOff + payloadLen i ≤ a) →
    (a < Config.outOff ∨ Config.outOff + outputLen i ≤ a) →
    memByte t.scr a = memByte s.scr a

/-- Byte `k` of a received payload is `SCR[k]` after every command of a fixed format (20_memory.md rules R61 and R62); an
RSA command has its result there. -/
def Obligations.PayloadInScratch : Prop :=
  ∀ (i : Instr) (s t : State) (k : Nat), i.wf = true → isRsa i = false → exec i s = .next t → k < payloadLen i →
    memByte t.scr (Config.inOff + k) = ((encode i).drop 1).getD k 0

/-! ### The cipher functions -/

/-- 41_aes_functions.md rule R166, for keys of 16 bytes (`Nk = 4`) and of 32 bytes (`Nk = 8`). -/
def Obligations.AesRoundTrip : Prop :=
  (∀ (K : Bytes 16) (P : Block), aesDecrypt 4 K (aesEncrypt 4 K P) = P ∧ aesEncrypt 4 K (aesDecrypt 4 K P) = P) ∧
  ∀ (K : Bytes 32) (P : Block), aesDecrypt 8 K (aesEncrypt 8 K P) = P ∧ aesEncrypt 8 K (aesDecrypt 8 K P) = P

/-- 41_aes_functions.md rule R171: the table-driven functions compute the values of the textbook ones. -/
def Obligations.AesTablesAgree : Prop :=
  (∀ (K : Bytes 16) (B : Block), aesCipherTbl 4 K B = aesEncrypt 4 K B ∧ aesInvCipherTbl 4 K B = aesDecrypt 4 K B) ∧
  ∀ (K : Bytes 32) (B : Block), aesCipherTbl 8 K B = aesEncrypt 8 K B ∧ aesInvCipherTbl 8 K B = aesDecrypt 8 K B

/-- The unmasking theorem of the `MT` datapath, for every key of both sizes, every block and every six mask bytes
(43_aes_countermeasures.md rule R214). -/
def Obligations.MaskedThroughUnmasks : Prop :=
  (∀ (K : Bytes 16) (P : Block) (k : MtMasks), aesMaskedThrough 4 K P k = aesEncrypt 4 K P) ∧
  ∀ (K : Bytes 32) (P : Block) (k : MtMasks), aesMaskedThrough 8 K P k = aesEncrypt 8 K P

/-- The unmasking theorem of the `MB` datapath, for every key of both sizes, every block and every mask
(43_aes_countermeasures.md rule R209). -/
def Obligations.MaskedBeforeUnmasks : Prop :=
  (∀ (K : Bytes 16) (P M : Block), aesMaskedBefore 4 K P M = aesEncrypt 4 K P) ∧
  ∀ (K : Bytes 32) (P M : Block), aesMaskedBefore 8 K P M = aesEncrypt 8 K P

/-- The order of the table lookups does not matter: every draw chooses a permutation, and in the order of any permutation
`SubBytes` and the round function of DES give their textbook values (43_aes_countermeasures.md rule R224, 44_des_tdes.md
rule R258). -/
def Obligations.LookupOrderDoesNotMatter : Prop :=
  (∀ (n : Nat) (s : State) (k : Nat), (drawOrder n s k).Perm (List.finRange n)) ∧
  (∀ (order : List (Fin 16)) (b : Block), order.Perm (List.finRange 16) → subBytesInOrder order b = subBytes b) ∧
  ∀ (order : List (Fin 8)) (r : BitVec 32) (k : BitVec 48), order.Perm (List.finRange 8) →
    desRoundIn order r k = desRound r k

/-- 44_des_tdes.md rule R251: decryption is encryption with the subkeys in reverse order, and the two undo each other. -/
def Obligations.DesRoundTrip : Prop :=
  ∀ K B : Bytes 8,
    desEncrypt K B = desWith (desKeySchedule K) B ∧ desDecrypt K B = desWith (desKeySchedule K).reverse B ∧
    desDecrypt K (desEncrypt K B) = B ∧ desEncrypt K (desDecrypt K B) = B

/-- TDES: decryption undoes encryption; with `K1 = K2` it is single DES under `K3` (44_des_tdes.md rule R253). -/
def Obligations.TdesRoundTrip : Prop :=
  ∀ (K : Bytes 24) (B : Bytes 8),
    tdesDecrypt K (tdesEncrypt K B) = B ∧
    ((∀ i : Fin 8, K[i.val]'(by omega) = K[8 + i.val]'(by omega)) →
      tdesEncrypt K B = desEncrypt (Vector.ofFn fun i : Fin 8 => K[16 + i.val]'(by omega)) B)

/-- Parity bits are ignored: two keys that differ only in the lowest bit of their bytes encrypt and decrypt alike
(44_des_tdes.md rule R254). -/
def Obligations.DesParityIgnored : Prop :=
  ∀ K K' B : Bytes 8, (∀ i : Fin 8, K[i] >>> 1 = K'[i] >>> 1) →
    desEncrypt K B = desEncrypt K' B ∧ desDecrypt K B = desDecrypt K' B

/-- 45_sm4.md rule R287: decryption is encryption with the round keys in reverse order, and the two undo each other. -/
def Obligations.Sm4RoundTrip : Prop :=
  ∀ K B : Block,
    sm4Encrypt K B = sm4With (sm4KeyExpansion K) B ∧ sm4Decrypt K B = sm4With (sm4KeyExpansion K).reverse B ∧
    sm4Decrypt K (sm4Encrypt K B) = B ∧ sm4Encrypt K (sm4Decrypt K B) = B

/-- 46_rsa.md rule R305: for a well-formed key the two methods agree with `c^d mod n` on every operand below `n`, and the
special values. -/
def Obligations.RsaMethodsAgree : Prop :=
  ∀ (key : RsaKey), key.WF →
    (∀ c, c < key.n → rsaCrt key c = c ^ key.d % key.n ∧ rsaSfm key c = c ^ key.d % key.n) ∧
    rsaSfm key 0 = 0 ∧ rsaSfm key 1 = 1 ∧ rsaSfm key (key.n - 1) = key.n - 1

/-! ### The trigger -/

/-- 40_trigger.md rules R131 and R132: the two operations of the generator within their preconditions. -/
def Obligations.TriggerOperations : Prop :=
  ∀ s : State,
    (s.trig = false → trigBegin s = .next { s with trig := true, trace := s.trace ++ [.trigRise] }) ∧
    (s.trig = true → trigEnd s = .next { s with trig := false, trace := s.trace ++ [.trigFall] })

/-! ### What each command does

`completed s (blockEffect s payload out draws)` is `s` with the payload at `SCR[0..]` and `out` at `SCR[84..]`, `CPOS`
past the payload, the trace grown by the payload's `Rx` events, one `TrigRise`, one `TrigFall` and the `Tx` events of
`out`, the core awaiting an opcode, and nothing else changed but the model's own counters of draws and of environment
inputs. -/

/-- The plain AES-128 cipher commands, textbook and table-driven (42_aes_commands.md rules R191, R193, R194, R195). -/
def Obligations.Aes128PlainResults : Prop :=
  ∀ (P : Block) (s : State), s.trig = false →
    exec (.aes128Enc P) s = .next (completed s (blockEffect s P.toList (aesEncrypt 4 s.keyAes128 P).toList 0)) ∧
    exec (.aes128Dec P) s = .next (completed s (blockEffect s P.toList (aesDecrypt 4 s.keyAes128 P).toList 0)) ∧
    exec (.aes128EncTbl P) s = .next (completed s (blockEffect s P.toList (aesEncrypt 4 s.keyAes128 P).toList 0)) ∧
    exec (.aes128DecTbl P) s = .next (completed s (blockEffect s P.toList (aesDecrypt 4 s.keyAes128 P).toList 0))

/-- The masked AES-128 commands answer `AES_Encrypt(KEY_AES128, P)` whatever the masks (43_aes_countermeasures.md rules
R215 to R218). -/
def Obligations.Aes128MaskedResults : Prop :=
  ∀ (P : Block) (PM : Bytes 32) (s : State), s.trig = false →
    exec (.aes128EncMt P) s = .next (completed s (blockEffect s P.toList (aesEncrypt 4 s.keyAes128 P).toList 6)) ∧
    exec (.aes128EncMtp P) s = .next (completed s (blockEffect s P.toList (aesEncrypt 4 s.keyAes128 P).toList 6)) ∧
    exec (.aes128EncMb P) s = .next (completed s (blockEffect s P.toList (aesEncrypt 4 s.keyAes128 P).toList 1)) ∧
    exec (.aes128EncMbx PM) s = .next (completed s (blockEffect s PM.toList
      (aesEncrypt 4 s.keyAes128 (Vector.ofFn fun i : Fin 16 => PM[i.val]'(by omega))).toList 0))

/-- Random delay, random S-box order and misaligned answer `AES_Encrypt(KEY_AES128, P)` (43_aes_countermeasures.md rules
R223, R225, R227). -/
def Obligations.Aes128TimedResults : Prop :=
  ∀ (P : Block) (s : State), s.trig = false →
    exec (.aes128EncRd P) s = .next (completed s (blockEffect s P.toList (aesEncrypt 4 s.keyAes128 P).toList 11)) ∧
    exec (.aes128EncRs P) s = .next (completed s (blockEffect s P.toList (aesEncrypt 4 s.keyAes128 P).toList 10)) ∧
    exec (.aes128EncMa P) s = .next (completed s (blockEffect s P.toList (aesEncrypt 4 s.keyAes128 P).toList 0))

/-- The AES-256 commands, plain and masked. `AES256.ENC` and `AES256.DEC` compute from the stored schedule, which is that
of the key between commands (`Inv`, 10_state.md rule R28); the masked ones expand the key afresh (42_aes_commands.md rules
R200 and R201, 43_aes_countermeasures.md rules R219 and R220). -/
def Obligations.Aes256Results : Prop :=
  ∀ (P : Block) (s : State), s.trig = false →
    (s.rk256 = packSchedule (aesKeyExpansion 8 s.keyAes256) →
      exec (.aes256Enc P) s = .next (completed s (blockEffect s P.toList (aesEncrypt 8 s.keyAes256 P).toList 0)) ∧
      exec (.aes256Dec P) s = .next (completed s (blockEffect s P.toList (aesDecrypt 8 s.keyAes256 P).toList 0))) ∧
    exec (.aes256EncMt P) s = .next (completed s (blockEffect s P.toList (aesEncrypt 8 s.keyAes256 P).toList 6)) ∧
    exec (.aes256EncMb P) s = .next (completed s (blockEffect s P.toList (aesEncrypt 8 s.keyAes256 P).toList 1))

/-- The hardware-backed commands when the accelerator is present and its verdict, a draw, is success (42_aes_commands.md
rules R197, R198, R199, R203, R204, 44_des_tdes.md rules R270 and R271). That its answer is the software value is the
spec's decision D15 (notes/assumptions/12.md). -/
def Obligations.HardwareAnswers : Prop :=
  ∀ (P : Block) (B : Bytes 8) (s : State), s.trig = false → s.cfg.hwPresent = true → drawBool s 0 = true →
    exec (.aes128EncHw P) s = .next (completed s (blockEffect s P.toList (aesEncrypt 4 s.keyAes128 P).toList 1)) ∧
    exec (.aes128DecHw P) s = .next (completed s (blockEffect s P.toList (aesDecrypt 4 s.keyAes128 P).toList 1)) ∧
    exec (.aes256EncHw P) s = .next (completed s (blockEffect s P.toList (aesEncrypt 8 s.keyAes256 P).toList 1)) ∧
    exec (.aes256DecHw P) s = .next (completed s (blockEffect s P.toList (aesDecrypt 8 s.keyAes256 P).toList 1)) ∧
    exec (.tdesEncHw B) s = .next (completed s (blockEffect s B.toList (tdesEncrypt s.keyTdes B).toList 1)) ∧
    exec (.tdesDecHw B) s = .next (completed s (blockEffect s B.toList (tdesDecrypt s.keyTdes B).toList 1))

/-- Error class 2: when the accelerator is absent, or present and failing, a hardware-backed command answers with zero
bytes of the normal length and without a bracket; an absent accelerator is not asked for a verdict (42_aes_commands.md rule
R197, 60_exceptions.md rule R343, 40_trigger.md rule R136). -/
def Obligations.HardwareUnavailable : Prop :=
  ∀ (P : Block) (B : Bytes 8) (s : State), (s.cfg.hwPresent = false ∨ drawBool s 0 = false) →
    let asked := if s.cfg.hwPresent then 1 else 0
    let silent16 := completed s ⟨P.toList, blockScratch s.scr P.toList (List.replicate 16 0), false,
      List.replicate 16 0, asked⟩
    let silent8 := completed s ⟨B.toList, blockScratch s.scr B.toList (List.replicate 8 0), false,
      List.replicate 8 0, asked⟩
    exec (.aes128EncHw P) s = .next silent16 ∧ exec (.aes128DecHw P) s = .next silent16 ∧
    exec (.aes256EncHw P) s = .next silent16 ∧ exec (.aes256DecHw P) s = .next silent16 ∧
    exec (.tdesEncHw B) s = .next silent8 ∧ exec (.tdesDecHw B) s = .next silent8

/-- The key-change commands write their register with exactly the bytes received, echo them, and open no window; the
AES-256 schedule is rebuilt (42_aes_commands.md rules R192 and R202, 44_des_tdes.md rules R262 and R269, 45_sm4.md rule
R292). -/
def Obligations.KeyChanges : Prop :=
  ∀ s : State,
    (∀ K : Bytes 8, exec (.desKey K) s = .next (completed { s with keyDes := K } (echoEffect s K.toList))) ∧
    (∀ K : Bytes 24, exec (.tdesKey K) s = .next (completed { s with keyTdes := K } (echoEffect s K.toList))) ∧
    (∀ K : Bytes 16, exec (.aes128Key K) s = .next (completed { s with keyAes128 := K } (echoEffect s K.toList))) ∧
    (∀ K : Bytes 32, exec (.aes256Key K) s =
      .next (completed { s with keyAes256 := K, rk256 := packSchedule (aesKeyExpansion 8 K) }
        (echoEffect s K.toList))) ∧
    ∀ K : Bytes 16, exec (.sm4Key K) s = .next (completed { s with keySm4 := K } (echoEffect s K.toList))

/-- The DES cipher commands that answer always: textbook, random delay, random S-box order, misaligned (44_des_tdes.md
rules R260, R261, R263, R264, R265). -/
def Obligations.DesResults : Prop :=
  ∀ (B : Bytes 8) (s : State), s.trig = false →
    exec (.desEnc B) s = .next (completed s (blockEffect s B.toList (desEncrypt s.keyDes B).toList 0)) ∧
    exec (.desDec B) s = .next (completed s (blockEffect s B.toList (desDecrypt s.keyDes B).toList 0)) ∧
    exec (.desEncRd B) s = .next (completed s (blockEffect s B.toList (desEncrypt s.keyDes B).toList 16)) ∧
    exec (.desEncRs B) s = .next (completed s (blockEffect s B.toList (desEncrypt s.keyDes B).toList 16)) ∧
    exec (.desEncMa B) s = .next (completed s (blockEffect s B.toList (desEncrypt s.keyDes B).toList 0))

/-- The TDES cipher commands (44_des_tdes.md rules R252, R253, R267, R268), with the three key parts written out. -/
def Obligations.TdesResults : Prop :=
  ∀ (B : Bytes 8) (s : State), s.trig = false →
    let part := fun (j : Fin 3) => (Vector.ofFn fun i : Fin 8 => s.keyTdes[8 * j.val + i.val]'(by omega) : Bytes 8)
    exec (.tdesEnc B) s = .next (completed s (blockEffect s B.toList
      (desEncrypt (part 2) (desDecrypt (part 1) (desEncrypt (part 0) B))).toList 0)) ∧
    exec (.tdesDec B) s = .next (completed s (blockEffect s B.toList
      (desDecrypt (part 0) (desEncrypt (part 1) (desDecrypt (part 2) B))).toList 0))

/-- The SM4 cipher commands (45_sm4.md rules R290, R291, R293). -/
def Obligations.Sm4Results : Prop :=
  ∀ (B : Block) (s : State), s.trig = false →
    exec (.sm4Enc B) s = .next (completed s (blockEffect s B.toList (sm4Encrypt s.keySm4 B).toList 0)) ∧
    exec (.sm4Dec B) s = .next (completed s (blockEffect s B.toList (sm4Decrypt s.keySm4 B).toList 0)) ∧
    exec (.sm4EncRd B) s = .next (completed s (blockEffect s B.toList (sm4Encrypt s.keySm4 B).toList 32))

/-- The double-computation block commands, with every perturbation: the first result, perturbed, is left in the output
region, and is sent exactly if the second computation, perturbed, gives the payload back (43_aes_countermeasures.md rules
R226, R228 and R229, 44_des_tdes.md rule R266). -/
def Obligations.DoubleComputationResults : Prop :=
  (∀ (P : Block) (s : State), s.trig = false →
    let C := xorBytes (aesEncrypt 4 s.keyAes128 P) (fault1 16 s)
    let P2 := xorBytes (aesDecrypt 4 s.keyAes128 C) (fault2 16 s)
    exec (.aes128EncDc P) s = .next (completed s
      ⟨P.toList, blockScratch s.scr P.toList C.toList, true, if P2 = P then C.toList else [], 0⟩)) ∧
  ∀ (B : Bytes 8) (s : State), s.trig = false →
    let C := xorBytes (desEncrypt s.keyDes B) (fault1 8 s)
    let B2 := xorBytes (desDecrypt s.keyDes C) (fault2 8 s)
    exec (.desEncDc B) s = .next (completed s
      ⟨B.toList, blockScratch s.scr B.toList C.toList, true, if B2 = B then C.toList else [], 0⟩)

/-- The contract of the double computation: without a fault the command answers as the single cipher does; with exactly
one of the two computations perturbed it sends nothing (43_aes_countermeasures.md rules R228, R229 and R230, 44_des_tdes.md
rule R266, 90_conflicts.md C5). -/
def Obligations.DoubleComputationContract : Prop :=
  (∀ (P : Block) (s : State), s.trig = false →
    (fault1 16 s = zeroBytes 16 → fault2 16 s = zeroBytes 16 →
      exec (.aes128EncDc P) s = exec (.aes128Enc P) s) ∧
    ((fault1 16 s ≠ zeroBytes 16 ↔ fault2 16 s = zeroBytes 16) →
      ∃ t, exec (.aes128EncDc P) s = .next t ∧
        t.trace = s.trace ++ P.toList.map .rx ++ [.trigRise, .trigFall])) ∧
  ∀ (B : Bytes 8) (s : State), s.trig = false →
    (fault1 8 s = zeroBytes 8 → fault2 8 s = zeroBytes 8 → exec (.desEncDc B) s = exec (.desEnc B) s) ∧
    ((fault1 8 s ≠ zeroBytes 8 ↔ fault2 8 s = zeroBytes 8) →
      ∃ t, exec (.desEncDc B) s = .next t ∧ t.trace = s.trace ++ B.toList.map .rx ++ [.trigRise, .trigFall])

/-- The RSA commands on an operand of the domain, under a well-formed key: the response is `c^d mod n`, big-endian, over
the operand; `PLEN` is the number of payload bytes (46_rsa.md rules R302, R305, R306, R310, R311, R312). -/
def Obligations.RsaResults : Prop :=
  ∀ (len : BitVec 16) (payload : List Byte) (s : State), s.trig = false → s.cfg.rsa.WF →
    payload.length = min len.toNat 168 → payload.length = s.cfg.rsa.k → beValue payload < s.cfg.rsa.n →
    let s' := { s with plen := BitVec.ofNat 16 payload.length }
    let out := (toBE s.cfg.rsa.k (beValue payload ^ s.cfg.rsa.d % s.cfg.rsa.n)).toList
    exec (.rsacrt len payload) s = .next (completed s' (rsaEffect s len payload out out 0)) ∧
    exec (.rsasfm len payload) s = .next (completed s' (rsaEffect s len payload out out 0)) ∧
    exec (.rsasfmRd len payload) s = .next (completed s' (rsaEffect s len payload out out (bitLen s.cfg.rsa.d)))

/-- The double computation of RSA, with every perturbation: `A` is left over the operand and sent exactly if the two
perturbed results are equal, that is, under a well-formed key, exactly if the two perturbations are (46_rsa.md rules R305
and R313). -/
def Obligations.RsaDoubleComputation : Prop :=
  ∀ (len : BitVec 16) (payload : List Byte) (s : State), s.trig = false → s.cfg.rsa.WF →
    payload.length = min len.toNat 168 → payload.length = s.cfg.rsa.k → beValue payload < s.cfg.rsa.n →
    let s' := { s with plen := BitVec.ofNat 16 payload.length }
    let k := s.cfg.rsa.k
    let A := xorBytes (toBE k (beValue payload ^ s.cfg.rsa.d % s.cfg.rsa.n)) (fault1 k s)
    exec (.rsacrtDc len payload) s = .next (completed s'
      (rsaEffect s len payload A.toList (if fault1 k s = fault2 k s then A.toList else []) 0))

/-- An RSA operand outside the domain is refused: `PLEN` is not `RSA_K` (zero, shorter, longer or clipped), or `c >= n`
(46_rsa.md rule R302). -/
def Obligations.RsaOutsideDomainRefused : Prop :=
  ∀ (len : BitVec 16) (payload : List Byte) (s : State), payload.length = min len.toNat 168 →
    (payload.length ≠ s.cfg.rsa.k ∨ s.cfg.rsa.n ≤ beValue payload ∨ payload = []) →
    exec (.rsacrt len payload) s = .refused .rsaOperandOutsideDomain ∧
    exec (.rsasfm len payload) s = .refused .rsaOperandOutsideDomain ∧
    exec (.rsasfmRd len payload) s = .refused .rsaOperandOutsideDomain ∧
    exec (.rsacrtDc len payload) s = .refused .rsaOperandOutsideDomain

/-- `PWD.CHK1`: the four bytes are compared with `PWD`, the outcome `xor` `FaultChk(1)` goes to `AUTH` and chooses the
response (47_session.md rules R319 and R320). -/
def Obligations.PasswordCheck : Prop :=
  ∀ (W : Bytes 4) (s : State), s.trig = false →
    let ok := (decide (W = s.pwd) ^^ (envInput s).faultChk1)
    exec (.pwdChk1 W) s = .next (completed { s with auth := ok }
      ⟨W.toList, storeBytes s.scr Config.inOff W.toList, true,
        (if ok then s.cfg.respOk else s.cfg.respFail).toList, 0⟩)

/-- `PWD.CHK2`: success needs both perturbed comparisons, the second of which is made only after the first (47_session.md
rules R319 and R321). -/
def Obligations.DoublePasswordCheck : Prop :=
  ∀ (W : Bytes 4) (s : State), s.trig = false →
    let ok1 := (decide (W = s.pwd) ^^ (envInput s).faultChk1)
    let ok2 := (decide (W = s.pwd) ^^ (envInput s).faultChk2)
    exec (.pwdChk2 W) s = .next (completed { s with auth := ok1 && ok2 }
      ⟨W.toList, storeBytes s.scr Config.inOff W.toList, true,
        (if ok1 && ok2 then s.cfg.respOk else s.cfg.respFail).toList, 0⟩)

/-- A single fault never authenticates through the double check: with a wrong password and at most one of the two checks
perturbed, `PWD.CHK2` clears `AUTH` and sends the failure code (47_session.md rules R321 and R324). -/
def Obligations.SingleFaultDoesNotAuthenticate : Prop :=
  ∀ (W : Bytes 4) (s : State), s.trig = false → W ≠ s.pwd →
    ¬ ((envInput s).faultChk1 = true ∧ (envInput s).faultChk2 = true) →
    ∃ t, exec (.pwdChk2 W) s = .next t ∧ t.auth = false ∧
      t.trace = s.trace ++ W.toList.map .rx ++ [.trigRise, .trigFall] ++ s.cfg.respFail.toList.map .tx

/-- `PWD.SET` writes `PWD`, clears `AUTH` always, and echoes the four bytes without a window (47_session.md rule R322; the
echo is the spec's decision D31). -/
def Obligations.PasswordChange : Prop :=
  ∀ (W : Bytes 4) (s : State),
    exec (.pwdSet W) s = .next (completed { s with pwd := W, auth := false } (echoEffect s W.toList))

/-- An unknown opcode, one outside the map and outside the sets `FI_OPCODES` and `EXT_OPCODES` of the configuration, is
answered by the three-way policy, in its priority order, whatever the opcode, without a window; as a step of the core,
nothing changes but `CPOS`, which advances by 1, the zeroed scratch buffer and `PLEN`, and the byte after the opcode
starts the next frame (60_exceptions.md rule R342, 30_encoding.md rule R102). With the default sets these are the
terms `unknown`; with another `FI_OPCODES`, also those of `fi0` to `fi15` that it leaves out. That the command also takes
one record of environment inputs away is the model's choice (notes/assumptions/7.md); terms that are not well formed,
which no frame decodes to, are shut out (notes/assumptions/17.md). -/
def Obligations.UnknownOpcodePolicy : Prop :=
  let policy := fun (s : State) =>
    let ok := s.cfg.respOk.toList
    if s.glitched = true then ok ++ ok ++ ok ++ ok
    else if s.auth = true then s.cfg.respSecret.toList else s.cfg.respBadcmd
  (∀ (i : Instr) (s : State), i.wf = true → isUnknown s.cfg i = true →
    exec i s = .next (completed s ⟨[], s.scr, false, policy s, 0⟩)) ∧
  ∀ (op : Byte) (rest : List Byte) (s : State), op ∉ commandOpcodes → op ∉ s.cfg.fiOpcodes → op ∉ s.cfg.extOpcodes →
    s.seq = .awaitOpcode → s.rx = op :: rest →
    step s = .next { s with
      scr := [], plen := 0, cpos := s.cpos + 1, rx := rest, env := s.env.tail,
      trace := s.trace ++ [.rx op] ++ (policy s).map .tx }

/-- A command of the fault-injection catalogue (`fi0` to `fi15` with the default `FI_OPCODES`, and every other opcode
outside the map that the configuration has in that set), with the two outcomes that 93_implementation_defined.md U5 lets a
model have, chosen by a draw (the model's choice, notes/assumptions/10.md). Control survives: one window, with the opcode
echoed inside it. A crash: the fault path of 60_exceptions.md rule R351 inside the window, with `TRIG` at the level it had
(40_trigger.md rule R141) and every key, flag and scratch byte as it was. -/
def Obligations.CatalogueOutcomes : Prop :=
  ∀ (i : Instr) (s : State), s.trig = false → runsScenario s.cfg i = true →
    (drawBool s 0 = true → exec i s = .next { s with
      seq := .awaitOpcode, trace := s.trace ++ [.trigRise, .tx (opcodeOf i), .trigFall],
      draws := s.draws.drop 1, drawIx := s.drawIx + 1, env := s.env.tail }) ∧
    (drawBool s 0 = false → exec i s = .next { s with
      trig := true, faultpin := true, seq := .halted, trace := s.trace ++ [.trigRise, .faultMark],
      draws := s.draws.drop 1, drawIx := s.drawIx + 1 })

/-! ### Pairs of commands -/

/-- The round trip on the wire: whatever block an encryption command of a cipher answers to `P`, a decryption command of
the same cipher, sent that block next, answers `P`, for every key. For AES-128 and AES-256, DES, TDES and SM4, the
encryption commands are all the forms that 42_aes_commands.md rule R206, 44_des_tdes.md rule R256 and 45_sm4.md rule R294
name: textbook, table-driven, masked, delayed, reordered, misaligned, hardware-backed with a successful accelerator and
double computation without a fault; the decryption commands are the textbook, table-driven and hardware-backed ones. For
AES-256 the stored schedule is that of the key, as `Inv` says. That a successful accelerator answers the software value is
the spec's decision D15 (notes/assumptions/12.md). -/
def Obligations.RoundTripOnTheWire : Prop :=
  ∀ s : State, s.trig = false →
    (∀ P M : Block, RoundTrips s P (aes128Encryptions P M) aes128Decryptions) ∧
    (s.rk256 = packSchedule (aesKeyExpansion 8 s.keyAes256) →
      ∀ P : Block, RoundTrips s P (aes256Encryptions P) aes256Decryptions) ∧
    (∀ B : Bytes 8, RoundTrips s B (desEncryptions B) desDecryptions) ∧
    (∀ B : Bytes 8, RoundTrips s B (tdesEncryptions B) tdesDecryptions) ∧
    ∀ B : Block, RoundTrips s B (sm4Encryptions B) sm4Decryptions
end

