-- ==== Sys2Proof/Laws/Aes.lean ====
section
/-! SUPPORT. The laws of the field arithmetic of AES and of its tables: the inverse is one, and the two tables hold what
their definitions say (41_aes_functions.md rules R152 to R154). -/

namespace Sys2Proof.Machine

/-- The inverse read from the table of the S-box, by the affine map that undoes that of rule R153. -/
theorem ginv_eq_sbox : ∀ x : Byte,
    ginv x = (sbox x).rotateLeft 1 ^^^ (sbox x).rotateLeft 3 ^^^ (sbox x).rotateLeft 6 ^^^ 0x05#8 := by decide +kernel

theorem ginv_zero : ginv 0 = 0 := by rw [ginv_eq_sbox]; decide

theorem gmul_ginv (a : Byte) : a ≠ 0 → gmul a (ginv a) = 1 := by
  rw [ginv_eq_sbox]; revert a; decide +kernel

theorem sbox_eq_sboxOfInverse (x : Byte) : sbox x = sboxOfInverse x := by
  rw [sboxOfInverse, ginv_eq_sbox]; revert x; decide +kernel

theorem invSbox_sbox : ∀ x : Byte, invSbox (sbox x) = x := by decide +kernel

theorem sbox_invSbox : ∀ x : Byte, sbox (invSbox x) = x := by decide +kernel

end Sys2Proof.Machine
end

