-- ==== Sys2Proof/Laws/State.lean ====
section
/-! SUPPORT. One lemma per field for each named update of the state, so that no later proof unfolds an update. -/

namespace Sys2Proof.Machine

variable (s : State)

/-! ### `emit` -/

@[simp] theorem emit_keyDes (es : List Event) : (emit es s).keyDes = s.keyDes := rfl
@[simp] theorem emit_keyTdes (es : List Event) : (emit es s).keyTdes = s.keyTdes := rfl
@[simp] theorem emit_keyAes128 (es : List Event) : (emit es s).keyAes128 = s.keyAes128 := rfl
@[simp] theorem emit_keyAes256 (es : List Event) : (emit es s).keyAes256 = s.keyAes256 := rfl
@[simp] theorem emit_keySm4 (es : List Event) : (emit es s).keySm4 = s.keySm4 := rfl
@[simp] theorem emit_pwd (es : List Event) : (emit es s).pwd = s.pwd := rfl
@[simp] theorem emit_rk256 (es : List Event) : (emit es s).rk256 = s.rk256 := rfl
@[simp] theorem emit_auth (es : List Event) : (emit es s).auth = s.auth := rfl
@[simp] theorem emit_glitched (es : List Event) : (emit es s).glitched = s.glitched := rfl
@[simp] theorem emit_scr (es : List Event) : (emit es s).scr = s.scr := rfl
@[simp] theorem emit_plen (es : List Event) : (emit es s).plen = s.plen := rfl
@[simp] theorem emit_seq (es : List Event) : (emit es s).seq = s.seq := rfl
@[simp] theorem emit_cpos (es : List Event) : (emit es s).cpos = s.cpos := rfl
@[simp] theorem emit_xsel (es : List Event) : (emit es s).xsel = s.xsel := rfl
@[simp] theorem emit_trig (es : List Event) : (emit es s).trig = s.trig := rfl
@[simp] theorem emit_faultpin (es : List Event) : (emit es s).faultpin = s.faultpin := rfl
@[simp] theorem emit_cfg (es : List Event) : (emit es s).cfg = s.cfg := rfl
@[simp] theorem emit_strap (es : List Event) : (emit es s).strap = s.strap := rfl
@[simp] theorem emit_bootCounter (es : List Event) : (emit es s).bootCounter = s.bootCounter := rfl
@[simp] theorem emit_rx (es : List Event) : (emit es s).rx = s.rx := rfl
@[simp] theorem emit_trace (es : List Event) : (emit es s).trace = s.trace ++ es := rfl
@[simp] theorem emit_draws (es : List Event) : (emit es s).draws = s.draws := rfl
@[simp] theorem emit_drawIx (es : List Event) : (emit es s).drawIx = s.drawIx := rfl
@[simp] theorem emit_env (es : List Event) : (emit es s).env = s.env := rfl

/-! ### `advance` -/

@[simp] theorem advance_keyDes (n : Nat) : (advance n s).keyDes = s.keyDes := rfl
@[simp] theorem advance_keyTdes (n : Nat) : (advance n s).keyTdes = s.keyTdes := rfl
@[simp] theorem advance_keyAes128 (n : Nat) : (advance n s).keyAes128 = s.keyAes128 := rfl
@[simp] theorem advance_keyAes256 (n : Nat) : (advance n s).keyAes256 = s.keyAes256 := rfl
@[simp] theorem advance_keySm4 (n : Nat) : (advance n s).keySm4 = s.keySm4 := rfl
@[simp] theorem advance_pwd (n : Nat) : (advance n s).pwd = s.pwd := rfl
@[simp] theorem advance_rk256 (n : Nat) : (advance n s).rk256 = s.rk256 := rfl
@[simp] theorem advance_auth (n : Nat) : (advance n s).auth = s.auth := rfl
@[simp] theorem advance_glitched (n : Nat) : (advance n s).glitched = s.glitched := rfl
@[simp] theorem advance_scr (n : Nat) : (advance n s).scr = s.scr := rfl
@[simp] theorem advance_plen (n : Nat) : (advance n s).plen = s.plen := rfl
@[simp] theorem advance_seq (n : Nat) : (advance n s).seq = s.seq := rfl
@[simp] theorem advance_cpos (n : Nat) : (advance n s).cpos = s.cpos + n := rfl
@[simp] theorem advance_xsel (n : Nat) : (advance n s).xsel = s.xsel := rfl
@[simp] theorem advance_trig (n : Nat) : (advance n s).trig = s.trig := rfl
@[simp] theorem advance_faultpin (n : Nat) : (advance n s).faultpin = s.faultpin := rfl
@[simp] theorem advance_cfg (n : Nat) : (advance n s).cfg = s.cfg := rfl
@[simp] theorem advance_strap (n : Nat) : (advance n s).strap = s.strap := rfl
@[simp] theorem advance_bootCounter (n : Nat) : (advance n s).bootCounter = s.bootCounter := rfl
@[simp] theorem advance_rx (n : Nat) : (advance n s).rx = s.rx := rfl
@[simp] theorem advance_trace (n : Nat) : (advance n s).trace = s.trace := rfl
@[simp] theorem advance_draws (n : Nat) : (advance n s).draws = s.draws := rfl
@[simp] theorem advance_drawIx (n : Nat) : (advance n s).drawIx = s.drawIx := rfl
@[simp] theorem advance_env (n : Nat) : (advance n s).env = s.env := rfl

/-! ### `withScr` -/

@[simp] theorem withScr_keyDes (m : Memory) : (withScr m s).keyDes = s.keyDes := rfl
@[simp] theorem withScr_keyTdes (m : Memory) : (withScr m s).keyTdes = s.keyTdes := rfl
@[simp] theorem withScr_keyAes128 (m : Memory) : (withScr m s).keyAes128 = s.keyAes128 := rfl
@[simp] theorem withScr_keyAes256 (m : Memory) : (withScr m s).keyAes256 = s.keyAes256 := rfl
@[simp] theorem withScr_keySm4 (m : Memory) : (withScr m s).keySm4 = s.keySm4 := rfl
@[simp] theorem withScr_pwd (m : Memory) : (withScr m s).pwd = s.pwd := rfl
@[simp] theorem withScr_rk256 (m : Memory) : (withScr m s).rk256 = s.rk256 := rfl
@[simp] theorem withScr_auth (m : Memory) : (withScr m s).auth = s.auth := rfl
@[simp] theorem withScr_glitched (m : Memory) : (withScr m s).glitched = s.glitched := rfl
@[simp] theorem withScr_scr (m : Memory) : (withScr m s).scr = m := rfl
@[simp] theorem withScr_plen (m : Memory) : (withScr m s).plen = s.plen := rfl
@[simp] theorem withScr_seq (m : Memory) : (withScr m s).seq = s.seq := rfl
@[simp] theorem withScr_cpos (m : Memory) : (withScr m s).cpos = s.cpos := rfl
@[simp] theorem withScr_xsel (m : Memory) : (withScr m s).xsel = s.xsel := rfl
@[simp] theorem withScr_trig (m : Memory) : (withScr m s).trig = s.trig := rfl
@[simp] theorem withScr_faultpin (m : Memory) : (withScr m s).faultpin = s.faultpin := rfl
@[simp] theorem withScr_cfg (m : Memory) : (withScr m s).cfg = s.cfg := rfl
@[simp] theorem withScr_strap (m : Memory) : (withScr m s).strap = s.strap := rfl
@[simp] theorem withScr_bootCounter (m : Memory) : (withScr m s).bootCounter = s.bootCounter := rfl
@[simp] theorem withScr_rx (m : Memory) : (withScr m s).rx = s.rx := rfl
@[simp] theorem withScr_trace (m : Memory) : (withScr m s).trace = s.trace := rfl
@[simp] theorem withScr_draws (m : Memory) : (withScr m s).draws = s.draws := rfl
@[simp] theorem withScr_drawIx (m : Memory) : (withScr m s).drawIx = s.drawIx := rfl
@[simp] theorem withScr_env (m : Memory) : (withScr m s).env = s.env := rfl

/-! ### `withPlen` -/

@[simp] theorem withPlen_keyDes (x : BitVec 16) : (withPlen x s).keyDes = s.keyDes := rfl
@[simp] theorem withPlen_keyTdes (x : BitVec 16) : (withPlen x s).keyTdes = s.keyTdes := rfl
@[simp] theorem withPlen_keyAes128 (x : BitVec 16) : (withPlen x s).keyAes128 = s.keyAes128 := rfl
@[simp] theorem withPlen_keyAes256 (x : BitVec 16) : (withPlen x s).keyAes256 = s.keyAes256 := rfl
@[simp] theorem withPlen_keySm4 (x : BitVec 16) : (withPlen x s).keySm4 = s.keySm4 := rfl
@[simp] theorem withPlen_pwd (x : BitVec 16) : (withPlen x s).pwd = s.pwd := rfl
@[simp] theorem withPlen_rk256 (x : BitVec 16) : (withPlen x s).rk256 = s.rk256 := rfl
@[simp] theorem withPlen_auth (x : BitVec 16) : (withPlen x s).auth = s.auth := rfl
@[simp] theorem withPlen_glitched (x : BitVec 16) : (withPlen x s).glitched = s.glitched := rfl
@[simp] theorem withPlen_scr (x : BitVec 16) : (withPlen x s).scr = s.scr := rfl
@[simp] theorem withPlen_plen (x : BitVec 16) : (withPlen x s).plen = x := rfl
@[simp] theorem withPlen_seq (x : BitVec 16) : (withPlen x s).seq = s.seq := rfl
@[simp] theorem withPlen_cpos (x : BitVec 16) : (withPlen x s).cpos = s.cpos := rfl
@[simp] theorem withPlen_xsel (x : BitVec 16) : (withPlen x s).xsel = s.xsel := rfl
@[simp] theorem withPlen_trig (x : BitVec 16) : (withPlen x s).trig = s.trig := rfl
@[simp] theorem withPlen_faultpin (x : BitVec 16) : (withPlen x s).faultpin = s.faultpin := rfl
@[simp] theorem withPlen_cfg (x : BitVec 16) : (withPlen x s).cfg = s.cfg := rfl
@[simp] theorem withPlen_strap (x : BitVec 16) : (withPlen x s).strap = s.strap := rfl
@[simp] theorem withPlen_bootCounter (x : BitVec 16) : (withPlen x s).bootCounter = s.bootCounter := rfl
@[simp] theorem withPlen_rx (x : BitVec 16) : (withPlen x s).rx = s.rx := rfl
@[simp] theorem withPlen_trace (x : BitVec 16) : (withPlen x s).trace = s.trace := rfl
@[simp] theorem withPlen_draws (x : BitVec 16) : (withPlen x s).draws = s.draws := rfl
@[simp] theorem withPlen_drawIx (x : BitVec 16) : (withPlen x s).drawIx = s.drawIx := rfl
@[simp] theorem withPlen_env (x : BitVec 16) : (withPlen x s).env = s.env := rfl

/-! ### `withTrig` -/

@[simp] theorem withTrig_keyDes (b : Bool) : (withTrig b s).keyDes = s.keyDes := rfl
@[simp] theorem withTrig_keyTdes (b : Bool) : (withTrig b s).keyTdes = s.keyTdes := rfl
@[simp] theorem withTrig_keyAes128 (b : Bool) : (withTrig b s).keyAes128 = s.keyAes128 := rfl
@[simp] theorem withTrig_keyAes256 (b : Bool) : (withTrig b s).keyAes256 = s.keyAes256 := rfl
@[simp] theorem withTrig_keySm4 (b : Bool) : (withTrig b s).keySm4 = s.keySm4 := rfl
@[simp] theorem withTrig_pwd (b : Bool) : (withTrig b s).pwd = s.pwd := rfl
@[simp] theorem withTrig_rk256 (b : Bool) : (withTrig b s).rk256 = s.rk256 := rfl
@[simp] theorem withTrig_auth (b : Bool) : (withTrig b s).auth = s.auth := rfl
@[simp] theorem withTrig_glitched (b : Bool) : (withTrig b s).glitched = s.glitched := rfl
@[simp] theorem withTrig_scr (b : Bool) : (withTrig b s).scr = s.scr := rfl
@[simp] theorem withTrig_plen (b : Bool) : (withTrig b s).plen = s.plen := rfl
@[simp] theorem withTrig_seq (b : Bool) : (withTrig b s).seq = s.seq := rfl
@[simp] theorem withTrig_cpos (b : Bool) : (withTrig b s).cpos = s.cpos := rfl
@[simp] theorem withTrig_xsel (b : Bool) : (withTrig b s).xsel = s.xsel := rfl
@[simp] theorem withTrig_trig (b : Bool) : (withTrig b s).trig = b := rfl
@[simp] theorem withTrig_faultpin (b : Bool) : (withTrig b s).faultpin = s.faultpin := rfl
@[simp] theorem withTrig_cfg (b : Bool) : (withTrig b s).cfg = s.cfg := rfl
@[simp] theorem withTrig_strap (b : Bool) : (withTrig b s).strap = s.strap := rfl
@[simp] theorem withTrig_bootCounter (b : Bool) : (withTrig b s).bootCounter = s.bootCounter := rfl
@[simp] theorem withTrig_rx (b : Bool) : (withTrig b s).rx = s.rx := rfl
@[simp] theorem withTrig_trace (b : Bool) : (withTrig b s).trace = s.trace := rfl
@[simp] theorem withTrig_draws (b : Bool) : (withTrig b s).draws = s.draws := rfl
@[simp] theorem withTrig_drawIx (b : Bool) : (withTrig b s).drawIx = s.drawIx := rfl
@[simp] theorem withTrig_env (b : Bool) : (withTrig b s).env = s.env := rfl

/-! ### `withAuth` -/

@[simp] theorem withAuth_keyDes (b : Bool) : (withAuth b s).keyDes = s.keyDes := rfl
@[simp] theorem withAuth_keyTdes (b : Bool) : (withAuth b s).keyTdes = s.keyTdes := rfl
@[simp] theorem withAuth_keyAes128 (b : Bool) : (withAuth b s).keyAes128 = s.keyAes128 := rfl
@[simp] theorem withAuth_keyAes256 (b : Bool) : (withAuth b s).keyAes256 = s.keyAes256 := rfl
@[simp] theorem withAuth_keySm4 (b : Bool) : (withAuth b s).keySm4 = s.keySm4 := rfl
@[simp] theorem withAuth_pwd (b : Bool) : (withAuth b s).pwd = s.pwd := rfl
@[simp] theorem withAuth_rk256 (b : Bool) : (withAuth b s).rk256 = s.rk256 := rfl
@[simp] theorem withAuth_auth (b : Bool) : (withAuth b s).auth = b := rfl
@[simp] theorem withAuth_glitched (b : Bool) : (withAuth b s).glitched = s.glitched := rfl
@[simp] theorem withAuth_scr (b : Bool) : (withAuth b s).scr = s.scr := rfl
@[simp] theorem withAuth_plen (b : Bool) : (withAuth b s).plen = s.plen := rfl
@[simp] theorem withAuth_seq (b : Bool) : (withAuth b s).seq = s.seq := rfl
@[simp] theorem withAuth_cpos (b : Bool) : (withAuth b s).cpos = s.cpos := rfl
@[simp] theorem withAuth_xsel (b : Bool) : (withAuth b s).xsel = s.xsel := rfl
@[simp] theorem withAuth_trig (b : Bool) : (withAuth b s).trig = s.trig := rfl
@[simp] theorem withAuth_faultpin (b : Bool) : (withAuth b s).faultpin = s.faultpin := rfl
@[simp] theorem withAuth_cfg (b : Bool) : (withAuth b s).cfg = s.cfg := rfl
@[simp] theorem withAuth_strap (b : Bool) : (withAuth b s).strap = s.strap := rfl
@[simp] theorem withAuth_bootCounter (b : Bool) : (withAuth b s).bootCounter = s.bootCounter := rfl
@[simp] theorem withAuth_rx (b : Bool) : (withAuth b s).rx = s.rx := rfl
@[simp] theorem withAuth_trace (b : Bool) : (withAuth b s).trace = s.trace := rfl
@[simp] theorem withAuth_draws (b : Bool) : (withAuth b s).draws = s.draws := rfl
@[simp] theorem withAuth_drawIx (b : Bool) : (withAuth b s).drawIx = s.drawIx := rfl
@[simp] theorem withAuth_env (b : Bool) : (withAuth b s).env = s.env := rfl

/-! ### `withPwd` -/

@[simp] theorem withPwd_keyDes (w : Bytes 4) : (withPwd w s).keyDes = s.keyDes := rfl
@[simp] theorem withPwd_keyTdes (w : Bytes 4) : (withPwd w s).keyTdes = s.keyTdes := rfl
@[simp] theorem withPwd_keyAes128 (w : Bytes 4) : (withPwd w s).keyAes128 = s.keyAes128 := rfl
@[simp] theorem withPwd_keyAes256 (w : Bytes 4) : (withPwd w s).keyAes256 = s.keyAes256 := rfl
@[simp] theorem withPwd_keySm4 (w : Bytes 4) : (withPwd w s).keySm4 = s.keySm4 := rfl
@[simp] theorem withPwd_pwd (w : Bytes 4) : (withPwd w s).pwd = w := rfl
@[simp] theorem withPwd_rk256 (w : Bytes 4) : (withPwd w s).rk256 = s.rk256 := rfl
@[simp] theorem withPwd_auth (w : Bytes 4) : (withPwd w s).auth = false := rfl
@[simp] theorem withPwd_glitched (w : Bytes 4) : (withPwd w s).glitched = s.glitched := rfl
@[simp] theorem withPwd_scr (w : Bytes 4) : (withPwd w s).scr = s.scr := rfl
@[simp] theorem withPwd_plen (w : Bytes 4) : (withPwd w s).plen = s.plen := rfl
@[simp] theorem withPwd_seq (w : Bytes 4) : (withPwd w s).seq = s.seq := rfl
@[simp] theorem withPwd_cpos (w : Bytes 4) : (withPwd w s).cpos = s.cpos := rfl
@[simp] theorem withPwd_xsel (w : Bytes 4) : (withPwd w s).xsel = s.xsel := rfl
@[simp] theorem withPwd_trig (w : Bytes 4) : (withPwd w s).trig = s.trig := rfl
@[simp] theorem withPwd_faultpin (w : Bytes 4) : (withPwd w s).faultpin = s.faultpin := rfl
@[simp] theorem withPwd_cfg (w : Bytes 4) : (withPwd w s).cfg = s.cfg := rfl
@[simp] theorem withPwd_strap (w : Bytes 4) : (withPwd w s).strap = s.strap := rfl
@[simp] theorem withPwd_bootCounter (w : Bytes 4) : (withPwd w s).bootCounter = s.bootCounter := rfl
@[simp] theorem withPwd_rx (w : Bytes 4) : (withPwd w s).rx = s.rx := rfl
@[simp] theorem withPwd_trace (w : Bytes 4) : (withPwd w s).trace = s.trace := rfl
@[simp] theorem withPwd_draws (w : Bytes 4) : (withPwd w s).draws = s.draws := rfl
@[simp] theorem withPwd_drawIx (w : Bytes 4) : (withPwd w s).drawIx = s.drawIx := rfl
@[simp] theorem withPwd_env (w : Bytes 4) : (withPwd w s).env = s.env := rfl

/-! ### `withKeyDes` -/

@[simp] theorem withKeyDes_keyDes (k : Bytes 8) : (withKeyDes k s).keyDes = k := rfl
@[simp] theorem withKeyDes_keyTdes (k : Bytes 8) : (withKeyDes k s).keyTdes = s.keyTdes := rfl
@[simp] theorem withKeyDes_keyAes128 (k : Bytes 8) : (withKeyDes k s).keyAes128 = s.keyAes128 := rfl
@[simp] theorem withKeyDes_keyAes256 (k : Bytes 8) : (withKeyDes k s).keyAes256 = s.keyAes256 := rfl
@[simp] theorem withKeyDes_keySm4 (k : Bytes 8) : (withKeyDes k s).keySm4 = s.keySm4 := rfl
@[simp] theorem withKeyDes_pwd (k : Bytes 8) : (withKeyDes k s).pwd = s.pwd := rfl
@[simp] theorem withKeyDes_rk256 (k : Bytes 8) : (withKeyDes k s).rk256 = s.rk256 := rfl
@[simp] theorem withKeyDes_auth (k : Bytes 8) : (withKeyDes k s).auth = s.auth := rfl
@[simp] theorem withKeyDes_glitched (k : Bytes 8) : (withKeyDes k s).glitched = s.glitched := rfl
@[simp] theorem withKeyDes_scr (k : Bytes 8) : (withKeyDes k s).scr = s.scr := rfl
@[simp] theorem withKeyDes_plen (k : Bytes 8) : (withKeyDes k s).plen = s.plen := rfl
@[simp] theorem withKeyDes_seq (k : Bytes 8) : (withKeyDes k s).seq = s.seq := rfl
@[simp] theorem withKeyDes_cpos (k : Bytes 8) : (withKeyDes k s).cpos = s.cpos := rfl
@[simp] theorem withKeyDes_xsel (k : Bytes 8) : (withKeyDes k s).xsel = s.xsel := rfl
@[simp] theorem withKeyDes_trig (k : Bytes 8) : (withKeyDes k s).trig = s.trig := rfl
@[simp] theorem withKeyDes_faultpin (k : Bytes 8) : (withKeyDes k s).faultpin = s.faultpin := rfl
@[simp] theorem withKeyDes_cfg (k : Bytes 8) : (withKeyDes k s).cfg = s.cfg := rfl
@[simp] theorem withKeyDes_strap (k : Bytes 8) : (withKeyDes k s).strap = s.strap := rfl
@[simp] theorem withKeyDes_bootCounter (k : Bytes 8) : (withKeyDes k s).bootCounter = s.bootCounter := rfl
@[simp] theorem withKeyDes_rx (k : Bytes 8) : (withKeyDes k s).rx = s.rx := rfl
@[simp] theorem withKeyDes_trace (k : Bytes 8) : (withKeyDes k s).trace = s.trace := rfl
@[simp] theorem withKeyDes_draws (k : Bytes 8) : (withKeyDes k s).draws = s.draws := rfl
@[simp] theorem withKeyDes_drawIx (k : Bytes 8) : (withKeyDes k s).drawIx = s.drawIx := rfl
@[simp] theorem withKeyDes_env (k : Bytes 8) : (withKeyDes k s).env = s.env := rfl

/-! ### `withKeyTdes` -/

@[simp] theorem withKeyTdes_keyDes (k : Bytes 24) : (withKeyTdes k s).keyDes = s.keyDes := rfl
@[simp] theorem withKeyTdes_keyTdes (k : Bytes 24) : (withKeyTdes k s).keyTdes = k := rfl
@[simp] theorem withKeyTdes_keyAes128 (k : Bytes 24) : (withKeyTdes k s).keyAes128 = s.keyAes128 := rfl
@[simp] theorem withKeyTdes_keyAes256 (k : Bytes 24) : (withKeyTdes k s).keyAes256 = s.keyAes256 := rfl
@[simp] theorem withKeyTdes_keySm4 (k : Bytes 24) : (withKeyTdes k s).keySm4 = s.keySm4 := rfl
@[simp] theorem withKeyTdes_pwd (k : Bytes 24) : (withKeyTdes k s).pwd = s.pwd := rfl
@[simp] theorem withKeyTdes_rk256 (k : Bytes 24) : (withKeyTdes k s).rk256 = s.rk256 := rfl
@[simp] theorem withKeyTdes_auth (k : Bytes 24) : (withKeyTdes k s).auth = s.auth := rfl
@[simp] theorem withKeyTdes_glitched (k : Bytes 24) : (withKeyTdes k s).glitched = s.glitched := rfl
@[simp] theorem withKeyTdes_scr (k : Bytes 24) : (withKeyTdes k s).scr = s.scr := rfl
@[simp] theorem withKeyTdes_plen (k : Bytes 24) : (withKeyTdes k s).plen = s.plen := rfl
@[simp] theorem withKeyTdes_seq (k : Bytes 24) : (withKeyTdes k s).seq = s.seq := rfl
@[simp] theorem withKeyTdes_cpos (k : Bytes 24) : (withKeyTdes k s).cpos = s.cpos := rfl
@[simp] theorem withKeyTdes_xsel (k : Bytes 24) : (withKeyTdes k s).xsel = s.xsel := rfl
@[simp] theorem withKeyTdes_trig (k : Bytes 24) : (withKeyTdes k s).trig = s.trig := rfl
@[simp] theorem withKeyTdes_faultpin (k : Bytes 24) : (withKeyTdes k s).faultpin = s.faultpin := rfl
@[simp] theorem withKeyTdes_cfg (k : Bytes 24) : (withKeyTdes k s).cfg = s.cfg := rfl
@[simp] theorem withKeyTdes_strap (k : Bytes 24) : (withKeyTdes k s).strap = s.strap := rfl
@[simp] theorem withKeyTdes_bootCounter (k : Bytes 24) : (withKeyTdes k s).bootCounter = s.bootCounter := rfl
@[simp] theorem withKeyTdes_rx (k : Bytes 24) : (withKeyTdes k s).rx = s.rx := rfl
@[simp] theorem withKeyTdes_trace (k : Bytes 24) : (withKeyTdes k s).trace = s.trace := rfl
@[simp] theorem withKeyTdes_draws (k : Bytes 24) : (withKeyTdes k s).draws = s.draws := rfl
@[simp] theorem withKeyTdes_drawIx (k : Bytes 24) : (withKeyTdes k s).drawIx = s.drawIx := rfl
@[simp] theorem withKeyTdes_env (k : Bytes 24) : (withKeyTdes k s).env = s.env := rfl

/-! ### `withKeyAes128` -/

@[simp] theorem withKeyAes128_keyDes (k : Bytes 16) : (withKeyAes128 k s).keyDes = s.keyDes := rfl
@[simp] theorem withKeyAes128_keyTdes (k : Bytes 16) : (withKeyAes128 k s).keyTdes = s.keyTdes := rfl
@[simp] theorem withKeyAes128_keyAes128 (k : Bytes 16) : (withKeyAes128 k s).keyAes128 = k := rfl
@[simp] theorem withKeyAes128_keyAes256 (k : Bytes 16) : (withKeyAes128 k s).keyAes256 = s.keyAes256 := rfl
@[simp] theorem withKeyAes128_keySm4 (k : Bytes 16) : (withKeyAes128 k s).keySm4 = s.keySm4 := rfl
@[simp] theorem withKeyAes128_pwd (k : Bytes 16) : (withKeyAes128 k s).pwd = s.pwd := rfl
@[simp] theorem withKeyAes128_rk256 (k : Bytes 16) : (withKeyAes128 k s).rk256 = s.rk256 := rfl
@[simp] theorem withKeyAes128_auth (k : Bytes 16) : (withKeyAes128 k s).auth = s.auth := rfl
@[simp] theorem withKeyAes128_glitched (k : Bytes 16) : (withKeyAes128 k s).glitched = s.glitched := rfl
@[simp] theorem withKeyAes128_scr (k : Bytes 16) : (withKeyAes128 k s).scr = s.scr := rfl
@[simp] theorem withKeyAes128_plen (k : Bytes 16) : (withKeyAes128 k s).plen = s.plen := rfl
@[simp] theorem withKeyAes128_seq (k : Bytes 16) : (withKeyAes128 k s).seq = s.seq := rfl
@[simp] theorem withKeyAes128_cpos (k : Bytes 16) : (withKeyAes128 k s).cpos = s.cpos := rfl
@[simp] theorem withKeyAes128_xsel (k : Bytes 16) : (withKeyAes128 k s).xsel = s.xsel := rfl
@[simp] theorem withKeyAes128_trig (k : Bytes 16) : (withKeyAes128 k s).trig = s.trig := rfl
@[simp] theorem withKeyAes128_faultpin (k : Bytes 16) : (withKeyAes128 k s).faultpin = s.faultpin := rfl
@[simp] theorem withKeyAes128_cfg (k : Bytes 16) : (withKeyAes128 k s).cfg = s.cfg := rfl
@[simp] theorem withKeyAes128_strap (k : Bytes 16) : (withKeyAes128 k s).strap = s.strap := rfl
@[simp] theorem withKeyAes128_bootCounter (k : Bytes 16) : (withKeyAes128 k s).bootCounter = s.bootCounter := rfl
@[simp] theorem withKeyAes128_rx (k : Bytes 16) : (withKeyAes128 k s).rx = s.rx := rfl
@[simp] theorem withKeyAes128_trace (k : Bytes 16) : (withKeyAes128 k s).trace = s.trace := rfl
@[simp] theorem withKeyAes128_draws (k : Bytes 16) : (withKeyAes128 k s).draws = s.draws := rfl
@[simp] theorem withKeyAes128_drawIx (k : Bytes 16) : (withKeyAes128 k s).drawIx = s.drawIx := rfl
@[simp] theorem withKeyAes128_env (k : Bytes 16) : (withKeyAes128 k s).env = s.env := rfl

/-! ### `withKeyAes256` -/

@[simp] theorem withKeyAes256_keyDes (k : Bytes 32) : (withKeyAes256 k s).keyDes = s.keyDes := rfl
@[simp] theorem withKeyAes256_keyTdes (k : Bytes 32) : (withKeyAes256 k s).keyTdes = s.keyTdes := rfl
@[simp] theorem withKeyAes256_keyAes128 (k : Bytes 32) : (withKeyAes256 k s).keyAes128 = s.keyAes128 := rfl
@[simp] theorem withKeyAes256_keyAes256 (k : Bytes 32) : (withKeyAes256 k s).keyAes256 = k := rfl
@[simp] theorem withKeyAes256_keySm4 (k : Bytes 32) : (withKeyAes256 k s).keySm4 = s.keySm4 := rfl
@[simp] theorem withKeyAes256_pwd (k : Bytes 32) : (withKeyAes256 k s).pwd = s.pwd := rfl
@[simp] theorem withKeyAes256_rk256 (k : Bytes 32) : (withKeyAes256 k s).rk256 = packSchedule (aesKeyExpansion 8 k) := rfl
@[simp] theorem withKeyAes256_auth (k : Bytes 32) : (withKeyAes256 k s).auth = s.auth := rfl
@[simp] theorem withKeyAes256_glitched (k : Bytes 32) : (withKeyAes256 k s).glitched = s.glitched := rfl
@[simp] theorem withKeyAes256_scr (k : Bytes 32) : (withKeyAes256 k s).scr = s.scr := rfl
@[simp] theorem withKeyAes256_plen (k : Bytes 32) : (withKeyAes256 k s).plen = s.plen := rfl
@[simp] theorem withKeyAes256_seq (k : Bytes 32) : (withKeyAes256 k s).seq = s.seq := rfl
@[simp] theorem withKeyAes256_cpos (k : Bytes 32) : (withKeyAes256 k s).cpos = s.cpos := rfl
@[simp] theorem withKeyAes256_xsel (k : Bytes 32) : (withKeyAes256 k s).xsel = s.xsel := rfl
@[simp] theorem withKeyAes256_trig (k : Bytes 32) : (withKeyAes256 k s).trig = s.trig := rfl
@[simp] theorem withKeyAes256_faultpin (k : Bytes 32) : (withKeyAes256 k s).faultpin = s.faultpin := rfl
@[simp] theorem withKeyAes256_cfg (k : Bytes 32) : (withKeyAes256 k s).cfg = s.cfg := rfl
@[simp] theorem withKeyAes256_strap (k : Bytes 32) : (withKeyAes256 k s).strap = s.strap := rfl
@[simp] theorem withKeyAes256_bootCounter (k : Bytes 32) : (withKeyAes256 k s).bootCounter = s.bootCounter := rfl
@[simp] theorem withKeyAes256_rx (k : Bytes 32) : (withKeyAes256 k s).rx = s.rx := rfl
@[simp] theorem withKeyAes256_trace (k : Bytes 32) : (withKeyAes256 k s).trace = s.trace := rfl
@[simp] theorem withKeyAes256_draws (k : Bytes 32) : (withKeyAes256 k s).draws = s.draws := rfl
@[simp] theorem withKeyAes256_drawIx (k : Bytes 32) : (withKeyAes256 k s).drawIx = s.drawIx := rfl
@[simp] theorem withKeyAes256_env (k : Bytes 32) : (withKeyAes256 k s).env = s.env := rfl

/-! ### `withKeySm4` -/

@[simp] theorem withKeySm4_keyDes (k : Bytes 16) : (withKeySm4 k s).keyDes = s.keyDes := rfl
@[simp] theorem withKeySm4_keyTdes (k : Bytes 16) : (withKeySm4 k s).keyTdes = s.keyTdes := rfl
@[simp] theorem withKeySm4_keyAes128 (k : Bytes 16) : (withKeySm4 k s).keyAes128 = s.keyAes128 := rfl
@[simp] theorem withKeySm4_keyAes256 (k : Bytes 16) : (withKeySm4 k s).keyAes256 = s.keyAes256 := rfl
@[simp] theorem withKeySm4_keySm4 (k : Bytes 16) : (withKeySm4 k s).keySm4 = k := rfl
@[simp] theorem withKeySm4_pwd (k : Bytes 16) : (withKeySm4 k s).pwd = s.pwd := rfl
@[simp] theorem withKeySm4_rk256 (k : Bytes 16) : (withKeySm4 k s).rk256 = s.rk256 := rfl
@[simp] theorem withKeySm4_auth (k : Bytes 16) : (withKeySm4 k s).auth = s.auth := rfl
@[simp] theorem withKeySm4_glitched (k : Bytes 16) : (withKeySm4 k s).glitched = s.glitched := rfl
@[simp] theorem withKeySm4_scr (k : Bytes 16) : (withKeySm4 k s).scr = s.scr := rfl
@[simp] theorem withKeySm4_plen (k : Bytes 16) : (withKeySm4 k s).plen = s.plen := rfl
@[simp] theorem withKeySm4_seq (k : Bytes 16) : (withKeySm4 k s).seq = s.seq := rfl
@[simp] theorem withKeySm4_cpos (k : Bytes 16) : (withKeySm4 k s).cpos = s.cpos := rfl
@[simp] theorem withKeySm4_xsel (k : Bytes 16) : (withKeySm4 k s).xsel = s.xsel := rfl
@[simp] theorem withKeySm4_trig (k : Bytes 16) : (withKeySm4 k s).trig = s.trig := rfl
@[simp] theorem withKeySm4_faultpin (k : Bytes 16) : (withKeySm4 k s).faultpin = s.faultpin := rfl
@[simp] theorem withKeySm4_cfg (k : Bytes 16) : (withKeySm4 k s).cfg = s.cfg := rfl
@[simp] theorem withKeySm4_strap (k : Bytes 16) : (withKeySm4 k s).strap = s.strap := rfl
@[simp] theorem withKeySm4_bootCounter (k : Bytes 16) : (withKeySm4 k s).bootCounter = s.bootCounter := rfl
@[simp] theorem withKeySm4_rx (k : Bytes 16) : (withKeySm4 k s).rx = s.rx := rfl
@[simp] theorem withKeySm4_trace (k : Bytes 16) : (withKeySm4 k s).trace = s.trace := rfl
@[simp] theorem withKeySm4_draws (k : Bytes 16) : (withKeySm4 k s).draws = s.draws := rfl
@[simp] theorem withKeySm4_drawIx (k : Bytes 16) : (withKeySm4 k s).drawIx = s.drawIx := rfl
@[simp] theorem withKeySm4_env (k : Bytes 16) : (withKeySm4 k s).env = s.env := rfl

/-! ### `consumeDraws` -/

@[simp] theorem consumeDraws_keyDes (n : Nat) : (consumeDraws n s).keyDes = s.keyDes := rfl
@[simp] theorem consumeDraws_keyTdes (n : Nat) : (consumeDraws n s).keyTdes = s.keyTdes := rfl
@[simp] theorem consumeDraws_keyAes128 (n : Nat) : (consumeDraws n s).keyAes128 = s.keyAes128 := rfl
@[simp] theorem consumeDraws_keyAes256 (n : Nat) : (consumeDraws n s).keyAes256 = s.keyAes256 := rfl
@[simp] theorem consumeDraws_keySm4 (n : Nat) : (consumeDraws n s).keySm4 = s.keySm4 := rfl
@[simp] theorem consumeDraws_pwd (n : Nat) : (consumeDraws n s).pwd = s.pwd := rfl
@[simp] theorem consumeDraws_rk256 (n : Nat) : (consumeDraws n s).rk256 = s.rk256 := rfl
@[simp] theorem consumeDraws_auth (n : Nat) : (consumeDraws n s).auth = s.auth := rfl
@[simp] theorem consumeDraws_glitched (n : Nat) : (consumeDraws n s).glitched = s.glitched := rfl
@[simp] theorem consumeDraws_scr (n : Nat) : (consumeDraws n s).scr = s.scr := rfl
@[simp] theorem consumeDraws_plen (n : Nat) : (consumeDraws n s).plen = s.plen := rfl
@[simp] theorem consumeDraws_seq (n : Nat) : (consumeDraws n s).seq = s.seq := rfl
@[simp] theorem consumeDraws_cpos (n : Nat) : (consumeDraws n s).cpos = s.cpos := rfl
@[simp] theorem consumeDraws_xsel (n : Nat) : (consumeDraws n s).xsel = s.xsel := rfl
@[simp] theorem consumeDraws_trig (n : Nat) : (consumeDraws n s).trig = s.trig := rfl
@[simp] theorem consumeDraws_faultpin (n : Nat) : (consumeDraws n s).faultpin = s.faultpin := rfl
@[simp] theorem consumeDraws_cfg (n : Nat) : (consumeDraws n s).cfg = s.cfg := rfl
@[simp] theorem consumeDraws_strap (n : Nat) : (consumeDraws n s).strap = s.strap := rfl
@[simp] theorem consumeDraws_bootCounter (n : Nat) : (consumeDraws n s).bootCounter = s.bootCounter := rfl
@[simp] theorem consumeDraws_rx (n : Nat) : (consumeDraws n s).rx = s.rx := rfl
@[simp] theorem consumeDraws_trace (n : Nat) : (consumeDraws n s).trace = s.trace := rfl
@[simp] theorem consumeDraws_draws (n : Nat) : (consumeDraws n s).draws = s.draws.drop n := rfl
@[simp] theorem consumeDraws_drawIx (n : Nat) : (consumeDraws n s).drawIx = s.drawIx + n := rfl
@[simp] theorem consumeDraws_env (n : Nat) : (consumeDraws n s).env = s.env := rfl

/-! ### `returned` -/

@[simp] theorem returned_keyDes : (returned s).keyDes = s.keyDes := rfl
@[simp] theorem returned_keyTdes : (returned s).keyTdes = s.keyTdes := rfl
@[simp] theorem returned_keyAes128 : (returned s).keyAes128 = s.keyAes128 := rfl
@[simp] theorem returned_keyAes256 : (returned s).keyAes256 = s.keyAes256 := rfl
@[simp] theorem returned_keySm4 : (returned s).keySm4 = s.keySm4 := rfl
@[simp] theorem returned_pwd : (returned s).pwd = s.pwd := rfl
@[simp] theorem returned_rk256 : (returned s).rk256 = s.rk256 := rfl
@[simp] theorem returned_auth : (returned s).auth = s.auth := rfl
@[simp] theorem returned_glitched : (returned s).glitched = s.glitched := rfl
@[simp] theorem returned_scr : (returned s).scr = s.scr := rfl
@[simp] theorem returned_plen : (returned s).plen = s.plen := rfl
@[simp] theorem returned_seq : (returned s).seq = .awaitOpcode := rfl
@[simp] theorem returned_cpos : (returned s).cpos = s.cpos := rfl
@[simp] theorem returned_xsel : (returned s).xsel = s.xsel := rfl
@[simp] theorem returned_trig : (returned s).trig = s.trig := rfl
@[simp] theorem returned_faultpin : (returned s).faultpin = s.faultpin := rfl
@[simp] theorem returned_cfg : (returned s).cfg = s.cfg := rfl
@[simp] theorem returned_strap : (returned s).strap = s.strap := rfl
@[simp] theorem returned_bootCounter : (returned s).bootCounter = s.bootCounter := rfl
@[simp] theorem returned_rx : (returned s).rx = s.rx := rfl
@[simp] theorem returned_trace : (returned s).trace = s.trace := rfl
@[simp] theorem returned_draws : (returned s).draws = s.draws := rfl
@[simp] theorem returned_drawIx : (returned s).drawIx = s.drawIx := rfl
@[simp] theorem returned_env : (returned s).env = s.env.tail := rfl

/-! ### `faultHalt` -/

@[simp] theorem faultHalt_keyDes : (faultHalt s).keyDes = s.keyDes := rfl
@[simp] theorem faultHalt_keyTdes : (faultHalt s).keyTdes = s.keyTdes := rfl
@[simp] theorem faultHalt_keyAes128 : (faultHalt s).keyAes128 = s.keyAes128 := rfl
@[simp] theorem faultHalt_keyAes256 : (faultHalt s).keyAes256 = s.keyAes256 := rfl
@[simp] theorem faultHalt_keySm4 : (faultHalt s).keySm4 = s.keySm4 := rfl
@[simp] theorem faultHalt_pwd : (faultHalt s).pwd = s.pwd := rfl
@[simp] theorem faultHalt_rk256 : (faultHalt s).rk256 = s.rk256 := rfl
@[simp] theorem faultHalt_auth : (faultHalt s).auth = s.auth := rfl
@[simp] theorem faultHalt_glitched : (faultHalt s).glitched = s.glitched := rfl
@[simp] theorem faultHalt_scr : (faultHalt s).scr = s.scr := rfl
@[simp] theorem faultHalt_plen : (faultHalt s).plen = s.plen := rfl
@[simp] theorem faultHalt_seq : (faultHalt s).seq = .halted := rfl
@[simp] theorem faultHalt_cpos : (faultHalt s).cpos = s.cpos := rfl
@[simp] theorem faultHalt_xsel : (faultHalt s).xsel = s.xsel := rfl
@[simp] theorem faultHalt_trig : (faultHalt s).trig = s.trig := rfl
@[simp] theorem faultHalt_faultpin : (faultHalt s).faultpin = true := rfl
@[simp] theorem faultHalt_cfg : (faultHalt s).cfg = s.cfg := rfl
@[simp] theorem faultHalt_strap : (faultHalt s).strap = s.strap := rfl
@[simp] theorem faultHalt_bootCounter : (faultHalt s).bootCounter = s.bootCounter := rfl
@[simp] theorem faultHalt_rx : (faultHalt s).rx = s.rx := rfl
@[simp] theorem faultHalt_trace : (faultHalt s).trace = s.trace ++ [.faultMark] := rfl
@[simp] theorem faultHalt_draws : (faultHalt s).draws = s.draws := rfl
@[simp] theorem faultHalt_drawIx : (faultHalt s).drawIx = s.drawIx := rfl
@[simp] theorem faultHalt_env : (faultHalt s).env = s.env := rfl

/-! ### `beginIteration` -/

@[simp] theorem beginIteration_keyDes (r : List Byte) : (beginIteration r s).keyDes = s.keyDes := rfl
@[simp] theorem beginIteration_keyTdes (r : List Byte) : (beginIteration r s).keyTdes = s.keyTdes := rfl
@[simp] theorem beginIteration_keyAes128 (r : List Byte) : (beginIteration r s).keyAes128 = s.keyAes128 := rfl
@[simp] theorem beginIteration_keyAes256 (r : List Byte) : (beginIteration r s).keyAes256 = s.keyAes256 := rfl
@[simp] theorem beginIteration_keySm4 (r : List Byte) : (beginIteration r s).keySm4 = s.keySm4 := rfl
@[simp] theorem beginIteration_pwd (r : List Byte) : (beginIteration r s).pwd = s.pwd := rfl
@[simp] theorem beginIteration_rk256 (r : List Byte) : (beginIteration r s).rk256 = s.rk256 := rfl
@[simp] theorem beginIteration_auth (r : List Byte) : (beginIteration r s).auth = s.auth := rfl
@[simp] theorem beginIteration_glitched (r : List Byte) : (beginIteration r s).glitched = s.glitched := rfl
@[simp] theorem beginIteration_scr (r : List Byte) : (beginIteration r s).scr = [] := rfl
@[simp] theorem beginIteration_plen (r : List Byte) : (beginIteration r s).plen = 0 := rfl
@[simp] theorem beginIteration_seq (r : List Byte) : (beginIteration r s).seq = s.seq := rfl
@[simp] theorem beginIteration_cpos (r : List Byte) : (beginIteration r s).cpos = s.cpos + 1 := rfl
@[simp] theorem beginIteration_xsel (r : List Byte) : (beginIteration r s).xsel = s.xsel := rfl
@[simp] theorem beginIteration_trig (r : List Byte) : (beginIteration r s).trig = s.trig := rfl
@[simp] theorem beginIteration_faultpin (r : List Byte) : (beginIteration r s).faultpin = s.faultpin := rfl
@[simp] theorem beginIteration_cfg (r : List Byte) : (beginIteration r s).cfg = s.cfg := rfl
@[simp] theorem beginIteration_strap (r : List Byte) : (beginIteration r s).strap = s.strap := rfl
@[simp] theorem beginIteration_bootCounter (r : List Byte) : (beginIteration r s).bootCounter = s.bootCounter := rfl
@[simp] theorem beginIteration_rx (r : List Byte) : (beginIteration r s).rx = r := rfl
@[simp] theorem beginIteration_trace (r : List Byte) : (beginIteration r s).trace = s.trace ++ [.rx (s.rx.headD 0#8)] := rfl
@[simp] theorem beginIteration_draws (r : List Byte) : (beginIteration r s).draws = s.draws := rfl
@[simp] theorem beginIteration_drawIx (r : List Byte) : (beginIteration r s).drawIx = s.drawIx := rfl
@[simp] theorem beginIteration_env (r : List Byte) : (beginIteration r s).env = s.env := rfl

/-! ### `completed` -/

@[simp] theorem completed_keyDes (e : Effect) : (completed s e).keyDes = s.keyDes := rfl
@[simp] theorem completed_keyTdes (e : Effect) : (completed s e).keyTdes = s.keyTdes := rfl
@[simp] theorem completed_keyAes128 (e : Effect) : (completed s e).keyAes128 = s.keyAes128 := rfl
@[simp] theorem completed_keyAes256 (e : Effect) : (completed s e).keyAes256 = s.keyAes256 := rfl
@[simp] theorem completed_keySm4 (e : Effect) : (completed s e).keySm4 = s.keySm4 := rfl
@[simp] theorem completed_pwd (e : Effect) : (completed s e).pwd = s.pwd := rfl
@[simp] theorem completed_rk256 (e : Effect) : (completed s e).rk256 = s.rk256 := rfl
@[simp] theorem completed_auth (e : Effect) : (completed s e).auth = s.auth := rfl
@[simp] theorem completed_glitched (e : Effect) : (completed s e).glitched = s.glitched := rfl
@[simp] theorem completed_scr (e : Effect) : (completed s e).scr = e.scratch := rfl
@[simp] theorem completed_plen (e : Effect) : (completed s e).plen = s.plen := rfl
@[simp] theorem completed_seq (e : Effect) : (completed s e).seq = .awaitOpcode := rfl
@[simp] theorem completed_cpos (e : Effect) : (completed s e).cpos = s.cpos + e.received.length := rfl
@[simp] theorem completed_xsel (e : Effect) : (completed s e).xsel = s.xsel := rfl
@[simp] theorem completed_trig (e : Effect) : (completed s e).trig = s.trig := rfl
@[simp] theorem completed_faultpin (e : Effect) : (completed s e).faultpin = s.faultpin := rfl
@[simp] theorem completed_cfg (e : Effect) : (completed s e).cfg = s.cfg := rfl
@[simp] theorem completed_strap (e : Effect) : (completed s e).strap = s.strap := rfl
@[simp] theorem completed_bootCounter (e : Effect) : (completed s e).bootCounter = s.bootCounter := rfl
@[simp] theorem completed_rx (e : Effect) : (completed s e).rx = s.rx := rfl
@[simp] theorem completed_trace (e : Effect) : (completed s e).trace = s.trace ++ e.events := rfl
@[simp] theorem completed_draws (e : Effect) : (completed s e).draws = s.draws.drop e.draws := rfl
@[simp] theorem completed_drawIx (e : Effect) : (completed s e).drawIx = s.drawIx + e.draws := rfl
@[simp] theorem completed_env (e : Effect) : (completed s e).env = s.env.tail := rfl

/-! ### `scenarioSurvived` -/

@[simp] theorem scenarioSurvived_keyDes (op : Byte) : (scenarioSurvived op s).keyDes = s.keyDes := rfl
@[simp] theorem scenarioSurvived_keyTdes (op : Byte) : (scenarioSurvived op s).keyTdes = s.keyTdes := rfl
@[simp] theorem scenarioSurvived_keyAes128 (op : Byte) : (scenarioSurvived op s).keyAes128 = s.keyAes128 := rfl
@[simp] theorem scenarioSurvived_keyAes256 (op : Byte) : (scenarioSurvived op s).keyAes256 = s.keyAes256 := rfl
@[simp] theorem scenarioSurvived_keySm4 (op : Byte) : (scenarioSurvived op s).keySm4 = s.keySm4 := rfl
@[simp] theorem scenarioSurvived_pwd (op : Byte) : (scenarioSurvived op s).pwd = s.pwd := rfl
@[simp] theorem scenarioSurvived_rk256 (op : Byte) : (scenarioSurvived op s).rk256 = s.rk256 := rfl
@[simp] theorem scenarioSurvived_auth (op : Byte) : (scenarioSurvived op s).auth = s.auth := rfl
@[simp] theorem scenarioSurvived_glitched (op : Byte) : (scenarioSurvived op s).glitched = s.glitched := rfl
@[simp] theorem scenarioSurvived_scr (op : Byte) : (scenarioSurvived op s).scr = s.scr := rfl
@[simp] theorem scenarioSurvived_plen (op : Byte) : (scenarioSurvived op s).plen = s.plen := rfl
@[simp] theorem scenarioSurvived_seq (op : Byte) : (scenarioSurvived op s).seq = .awaitOpcode := rfl
@[simp] theorem scenarioSurvived_cpos (op : Byte) : (scenarioSurvived op s).cpos = s.cpos := rfl
@[simp] theorem scenarioSurvived_xsel (op : Byte) : (scenarioSurvived op s).xsel = s.xsel := rfl
@[simp] theorem scenarioSurvived_trig (op : Byte) : (scenarioSurvived op s).trig = s.trig := rfl
@[simp] theorem scenarioSurvived_faultpin (op : Byte) : (scenarioSurvived op s).faultpin = s.faultpin := rfl
@[simp] theorem scenarioSurvived_cfg (op : Byte) : (scenarioSurvived op s).cfg = s.cfg := rfl
@[simp] theorem scenarioSurvived_strap (op : Byte) : (scenarioSurvived op s).strap = s.strap := rfl
@[simp] theorem scenarioSurvived_bootCounter (op : Byte) : (scenarioSurvived op s).bootCounter = s.bootCounter := rfl
@[simp] theorem scenarioSurvived_rx (op : Byte) : (scenarioSurvived op s).rx = s.rx := rfl
@[simp] theorem scenarioSurvived_trace (op : Byte) : (scenarioSurvived op s).trace = s.trace ++ [.trigRise, .tx op, .trigFall] := rfl
@[simp] theorem scenarioSurvived_draws (op : Byte) : (scenarioSurvived op s).draws = s.draws.drop 1 := rfl
@[simp] theorem scenarioSurvived_drawIx (op : Byte) : (scenarioSurvived op s).drawIx = s.drawIx + 1 := rfl
@[simp] theorem scenarioSurvived_env (op : Byte) : (scenarioSurvived op s).env = s.env.tail := rfl

/-! ### `scenarioCrashed` -/

@[simp] theorem scenarioCrashed_keyDes : (scenarioCrashed s).keyDes = s.keyDes := rfl
@[simp] theorem scenarioCrashed_keyTdes : (scenarioCrashed s).keyTdes = s.keyTdes := rfl
@[simp] theorem scenarioCrashed_keyAes128 : (scenarioCrashed s).keyAes128 = s.keyAes128 := rfl
@[simp] theorem scenarioCrashed_keyAes256 : (scenarioCrashed s).keyAes256 = s.keyAes256 := rfl
@[simp] theorem scenarioCrashed_keySm4 : (scenarioCrashed s).keySm4 = s.keySm4 := rfl
@[simp] theorem scenarioCrashed_pwd : (scenarioCrashed s).pwd = s.pwd := rfl
@[simp] theorem scenarioCrashed_rk256 : (scenarioCrashed s).rk256 = s.rk256 := rfl
@[simp] theorem scenarioCrashed_auth : (scenarioCrashed s).auth = s.auth := rfl
@[simp] theorem scenarioCrashed_glitched : (scenarioCrashed s).glitched = s.glitched := rfl
@[simp] theorem scenarioCrashed_scr : (scenarioCrashed s).scr = s.scr := rfl
@[simp] theorem scenarioCrashed_plen : (scenarioCrashed s).plen = s.plen := rfl
@[simp] theorem scenarioCrashed_seq : (scenarioCrashed s).seq = .halted := rfl
@[simp] theorem scenarioCrashed_cpos : (scenarioCrashed s).cpos = s.cpos := rfl
@[simp] theorem scenarioCrashed_xsel : (scenarioCrashed s).xsel = s.xsel := rfl
@[simp] theorem scenarioCrashed_trig : (scenarioCrashed s).trig = true := rfl
@[simp] theorem scenarioCrashed_faultpin : (scenarioCrashed s).faultpin = true := rfl
@[simp] theorem scenarioCrashed_cfg : (scenarioCrashed s).cfg = s.cfg := rfl
@[simp] theorem scenarioCrashed_strap : (scenarioCrashed s).strap = s.strap := rfl
@[simp] theorem scenarioCrashed_bootCounter : (scenarioCrashed s).bootCounter = s.bootCounter := rfl
@[simp] theorem scenarioCrashed_rx : (scenarioCrashed s).rx = s.rx := rfl
@[simp] theorem scenarioCrashed_trace : (scenarioCrashed s).trace = s.trace ++ [.trigRise, .faultMark] := rfl
@[simp] theorem scenarioCrashed_draws : (scenarioCrashed s).draws = s.draws.drop 1 := rfl
@[simp] theorem scenarioCrashed_drawIx : (scenarioCrashed s).drawIx = s.drawIx + 1 := rfl
@[simp] theorem scenarioCrashed_env : (scenarioCrashed s).env = s.env := rfl

end Sys2Proof.Machine
end

