-- ==== Sys2Proof/Laws/Memory.lean ====
section
/-! SUPPORT. The laws of the scratch buffer: reading what was written, leaving every other offset alone, and keeping the
canonical form. -/

namespace Sys2Proof.Machine

/-! ### Reading -/

@[simp] theorem memByte_nil (a : Nat) : memByte [] a = Memory.unlisted := rfl

theorem memByte_cons (b : Nat) (v : Byte) (m : Memory) (a : Nat) :
    memByte ((b, v) :: m) a = if a = b then v else memByte m a := rfl

theorem memByte_filter_ne (m : Memory) (a b : Nat) :
    memByte (m.filter fun c => c.1 != a) b = if b = a then Memory.unlisted else memByte m b := by
  induction m with
  | nil => simp
  | cons c m ih =>
    obtain ⟨x, v⟩ := c
    by_cases hx : x = a
    · subst hx; by_cases hb : b = x <;> simp_all [memByte_cons]
    · by_cases hb : b = a <;> simp_all [memByte_cons, Ne.symm hx]

theorem memByte_insertCell (m : Memory) (a : Nat) (v : Byte) (b : Nat)
    (hm : ∀ c ∈ m, c.1 ≠ a) : memByte (insertCell (a, v) m) b = if b = a then v else memByte m b := by
  induction m with
  | nil => simp [insertCell, memByte_cons]
  | cons c m ih =>
    obtain ⟨x, w⟩ := c
    have hx : x ≠ a := hm (x, w) (by simp)
    have hm' : ∀ c ∈ m, c.1 ≠ a := fun c hc => hm c (by simp [hc])
    by_cases hlt : a < x
    · simp [insertCell, hlt, memByte_cons]
    · by_cases hb : b = x
      · subst hb; simp [insertCell, hlt, memByte_cons, hx]
      · simp [insertCell, hlt, memByte_cons, hb, ih hm']

/-- A byte written reads back, and every other offset reads as before. -/
theorem memByte_memSet (m : Memory) (a : Nat) (v : Byte) (b : Nat) :
    memByte (memSet m a v) b = if b = a then v else memByte m b := by
  unfold memSet
  by_cases hv : v = Memory.unlisted
  · simp [hv, memByte_filter_ne]
  · simp only [hv, if_false]
    rw [memByte_insertCell _ _ _ _ (by simp), memByte_filter_ne]
    split <;> rfl

/-- A string written reads back, and every offset outside it reads as before. -/
theorem memByte_storeBytes (bs : List Byte) (m : Memory) (a b : Nat) :
    memByte (storeBytes m a bs) b = if a ≤ b ∧ b < a + bs.length then bs.getD (b - a) 0#8 else memByte m b := by
  induction bs generalizing m a with
  | nil => simp [storeBytes]
  | cons v bs ih =>
    simp only [storeBytes, ih, memByte_memSet, List.length_cons]
    by_cases hab : b = a
    · subst hab
      simp
    · by_cases hin : a + 1 ≤ b ∧ b < a + 1 + bs.length
      · have h2 : a ≤ b ∧ b < a + (bs.length + 1) := by omega
        have h3 : b - a = (b - (a + 1)) + 1 := by omega
        simp [hin, h2, h3]
      · have h2 : ¬ (a ≤ b ∧ b < a + (bs.length + 1)) := by omega
        rw [if_neg hin, if_neg hab, if_neg h2]

theorem memByte_storeBytes_outside (bs : List Byte) (m : Memory) (a b : Nat) (h : b < a ∨ a + bs.length ≤ b) :
    memByte (storeBytes m a bs) b = memByte m b := by
  rw [memByte_storeBytes, if_neg (by omega)]

/-- Reading a region just written gives the string written. -/
theorem loadBytes_storeBytes {n : Nat} (m : Memory) (a : Nat) (v : Bytes n) :
    loadBytes (storeBytes m a v.toList) a n = v := by
  ext i hi
  simp [loadBytes, memByte_storeBytes]

/-- Reading a region that a write does not touch gives what was there. -/
theorem loadBytes_storeBytes_outside (m : Memory) (a b n : Nat) (bs : List Byte)
    (h : b + n ≤ a ∨ a + bs.length ≤ b) : loadBytes (storeBytes m a bs) b n = loadBytes m b n := by
  ext i hi
  have := memByte_storeBytes_outside bs m a (b + i) (by omega)
  simp [loadBytes, this]

/-- Reading a region just written, as a list. -/
theorem toList_loadBytes_storeBytes (m : Memory) (a : Nat) (bs : List Byte) :
    (loadBytes (storeBytes m a bs) a bs.length).toList = bs := by
  apply List.ext_getElem (by simp)
  intro i h1 h2
  simp [loadBytes, memByte_storeBytes]

/-! ### The canonical form -/

theorem wf_nil : Memory.wf [] := by simp [Memory.wf]

theorem wf_filter (m : Memory) (p : Host.Cell → Bool) (h : Memory.wf m) : Memory.wf (m.filter p) :=
  ⟨h.1.sublist ((List.filter_sublist).map _), fun c hc => h.2 c (List.mem_of_mem_filter hc)⟩

theorem mem_insertCell (m : Memory) (c d : Host.Cell) : d ∈ insertCell c m ↔ d = c ∨ d ∈ m := by
  induction m with
  | nil => simp [insertCell]
  | cons e m ih =>
    unfold insertCell
    split
    · simp
    · simp only [List.mem_cons, ih]; tauto

theorem pairwise_insertCell (m : Memory) (c : Host.Cell) (hm : (m.map Prod.fst).Pairwise (· < ·))
    (hc : ∀ d ∈ m, d.1 ≠ c.1) : ((insertCell c m).map Prod.fst).Pairwise (· < ·) := by
  induction m with
  | nil => simp [insertCell]
  | cons e m ih =>
    simp only [List.map_cons, List.pairwise_cons] at hm
    unfold insertCell
    split
    · rename_i hlt
      simp only [List.map_cons, List.pairwise_cons, List.mem_cons, forall_eq_or_imp]
      exact ⟨⟨hlt, fun x hx => lt_trans hlt (hm.1 x hx)⟩, hm.1, hm.2⟩
    · rename_i hge
      have he : e.1 < c.1 := lt_of_le_of_ne (Nat.le_of_not_lt hge) (hc e (by simp))
      simp only [List.map_cons, List.pairwise_cons]
      refine ⟨?_, ih hm.2 fun d hd => hc d (by simp [hd])⟩
      intro x hx
      obtain ⟨d, hd, rfl⟩ := List.mem_map.1 hx
      rcases (mem_insertCell m c d).1 hd with rfl | hd
      · exact he
      · exact hm.1 _ (List.mem_map.2 ⟨d, hd, rfl⟩)

/-- A write of one byte inside the buffer keeps the canonical form. -/
theorem wf_memSet (m : Memory) (a : Nat) (v : Byte) (h : Memory.wf m) (ha : a < Config.scrCap) :
    Memory.wf (memSet m a v) := by
  have hf := wf_filter m (fun c => c.1 != a) h
  unfold memSet
  by_cases hv : v = Memory.unlisted
  · simpa [hv] using hf
  · simp only [hv, if_false]
    refine ⟨pairwise_insertCell _ _ hf.1 (by simp), ?_⟩
    intro c hc
    rcases (mem_insertCell _ _ _).1 hc with rfl | hc
    · exact ⟨ha, hv⟩
    · exact hf.2 c hc

/-- A write of a string inside the buffer keeps the canonical form. -/
theorem wf_storeBytes (bs : List Byte) (m : Memory) (a : Nat) (h : Memory.wf m)
    (ha : a + bs.length ≤ Config.scrCap) : Memory.wf (storeBytes m a bs) := by
  induction bs generalizing m a with
  | nil => exact h
  | cons v bs ih =>
    rw [List.length_cons] at ha
    exact ih _ _ (wf_memSet m a v h (by omega)) (by omega)

/-- The scratch buffer of the reset state has the canonical form. -/
theorem wf_reset : Memory.wf State.reset.scr := wf_nil

end Sys2Proof.Machine
end

