-- ==== Sys2Proof/Laws/Ops.lean ====
section
/-! SUPPORT. One lemma for each shared operation that says once everything it can do: the state it leaves, or why it
stops. Proofs about a command cite the lemma of its shape instead of unfolding it. -/

-- One proof after another: the checks bound the memory, and with it the number of threads.
set_option Elab.async false

namespace Sys2Proof.Machine

/-! ### Composition -/

@[simp] theorem andThen_next (s : State) (f : State → Res) : Res.andThen (.next s) f = f s := rfl
@[simp] theorem andThen_fault (x : Fault) (f : State → Res) : Res.andThen (.fault x) f = .fault x := rfl
@[simp] theorem andThen_refused (x : Refusal) (f : State → Res) : Res.andThen (.refused x) f = .refused x := rfl

/-- `chooseRes` is a choice. -/
theorem chooseRes_eq (b : Bool) (a a' : Res) : chooseRes b a a' = if b then a else a' := by
  cases b <;> cases a <;> cases a' <;> rfl

/-! ### Single operations -/

theorem memRead_eq (a n : Nat) (s : State) (use : Bytes n → Res) (h : a + n ≤ Config.scrCap) :
    memRead a n s use = use (loadBytes s.scr a n) := if_pos h

theorem memWrite_eq (a n : Nat) (v : List Byte) (s : State) (h : a + n ≤ Config.scrCap) :
    memWrite a n v s = .next (withScr (storeBytes s.scr a v) s) := if_pos h

theorem recvFixed_eq {n : Nat} (p : Bytes n) (s : State) (h : n ≤ Config.scrCap) :
    recvFixed p s =
      .next (emit (p.toList.map .rx) (advance n (withScr (storeBytes s.scr Config.inOff p.toList) s))) := by
  simp [recvFixed, memWrite_eq, Config.inOff, h]

theorem recvVar_eq (len : BitVec 16) (p : List Byte) (s : State) (h : p.length ≤ Config.scrCap) :
    recvVar len p s =
      .next (emit ((varReceived len p).map .rx) (advance (2 + p.length)
        (withScr (storeBytes s.scr Config.inOff p) (withPlen (BitVec.ofNat 16 (min len.toNat Config.scrCap)) s)))) := by
  simp [recvVar, memWrite_eq, Config.inOff, h]

theorem respondFrom_eq (a n : Nat) (send : Bool) (s : State) (h : a + n ≤ Config.scrCap) :
    respondFrom a n send s =
      .next (returned (emit ((if send then (loadBytes s.scr a n).toList else []).map .tx) s)) := by
  simp [respondFrom, memRead_eq _ _ _ _ h, transmit, finish]

theorem trigBegin_low (s : State) (h : s.trig = false) : trigBegin s = .next (emit [.trigRise] (withTrig true s)) := by
  simp [trigBegin, h]

theorem trigBegin_high (s : State) (h : s.trig = true) : trigBegin s = .fault .trigBeginWhileHigh := by
  simp [trigBegin, h]

theorem trigEnd_high (s : State) (h : s.trig = true) : trigEnd s = .next (emit [.trigFall] (withTrig false s)) := by
  simp [trigEnd, h]

theorem trigEnd_low (s : State) (h : s.trig = false) : trigEnd s = .fault .trigEndWhileLow := by
  simp [trigEnd, h]

theorem bracket_low {α : Type} (body : State → (State → α → Res) → Res) (s : State) (after : State → α → Res)
    (h : s.trig = false) :
    bracket body s after =
      body (emit [.trigRise] (withTrig true s)) fun s a => (trigEnd s).andThen fun s => after s a := by
  simp [bracket, trigBegin_low s h]

theorem bracket_high {α : Type} (body : State → (State → α → Res) → Res) (s : State) (after : State → α → Res)
    (h : s.trig = true) : bracket body s after = .fault .trigBeginWhileHigh := by
  simp [bracket, trigBegin_high s h]

/-! ### What a meaning reads -/

/-- A part of a meaning that reads nothing that the handler's own receive, trigger and scratch operations change. -/
def ReadsRegisters {α : Type} (f : State → α) : Prop :=
  ∀ (s : State) (m : Memory) (x : BitVec 16) (c : Nat) (b : Bool) (es : List Event),
    f { s with scr := m, plen := x, cpos := c, trig := b, trace := es } = f s

section
variable {α : Type} {f : State → α} (h : ReadsRegisters f)
include h

theorem ReadsRegisters.emit (es : List Event) (s : State) : f (emit es s) = f s :=
  h s s.scr s.plen s.cpos s.trig (s.trace ++ es)
theorem ReadsRegisters.advance (n : Nat) (s : State) : f (advance n s) = f s :=
  h s s.scr s.plen (s.cpos + n) s.trig s.trace
theorem ReadsRegisters.withScr (m : Memory) (s : State) : f (withScr m s) = f s := h s m s.plen s.cpos s.trig s.trace
theorem ReadsRegisters.withPlen (x : BitVec 16) (s : State) : f (withPlen x s) = f s :=
  h s s.scr x s.cpos s.trig s.trace
theorem ReadsRegisters.withTrig (b : Bool) (s : State) : f (withTrig b s) = f s := h s s.scr s.plen s.cpos b s.trace

end

theorem reads_fault1 (n : Nat) : ReadsRegisters (fault1 n) := fun _ _ _ _ _ _ => rfl
theorem reads_fault2 (n : Nat) : ReadsRegisters (fault2 n) := fun _ _ _ _ _ _ => rfl

/-- A register write that changes nothing that the handler's receive operation changes, and whose register reads back
what was written. -/
structure WritesRegister {n : Nat} (write : Bytes n → State → State) (register : State → Bytes n) : Prop where
  reads_back : ∀ k s, register (write k s) = k
  commutes : ∀ k s m c es,
    write k { s with scr := m, cpos := c, trace := es } = { write k s with scr := m, cpos := c, trace := es }
  keeps : ∀ k s, (write k s).scr = s.scr ∧ (write k s).cpos = s.cpos ∧ (write k s).trace = s.trace ∧
    (write k s).draws = s.draws ∧ (write k s).drawIx = s.drawIx

/-- The state after a receive, a window that leaves the scratch buffer `m`, and a response. -/
theorem window_end (s : State) (m0 m : Memory) (n d : Nat) (received sent : List Byte) (hn : n = received.length)
    (ht : s.trig = false) :
    returned (emit (sent.map .tx) (emit [.trigFall] (withTrig false (consumeDraws d (withScr m (emit [.trigRise]
      (withTrig true (emit (received.map .rx) (advance n (withScr m0 s))))))))))
      = completed s ⟨received, m, true, sent, d⟩ := by
  subst hn
  obtain ⟨⟩ := s
  simp only at ht
  simp [completed, returned, emit, advance, withScr, withTrig, consumeDraws, Effect.events, ht]

theorem window_end_drawless (s : State) (m0 m : Memory) (n : Nat) (received sent : List Byte) (hn : n = received.length)
    (ht : s.trig = false) :
    returned (emit (sent.map .tx) (emit [.trigFall] (withTrig false (withScr m (emit [.trigRise] (withTrig true
      (emit (received.map .rx) (advance n (withScr m0 s)))))))))
      = completed s ⟨received, m, true, sent, 0⟩ := by
  subst hn
  obtain ⟨⟩ := s
  simp only at ht
  simp [completed, returned, emit, advance, withScr, withTrig, Effect.events, ht]

/-- The state after a receive, a write without a window, and a response. -/
theorem silent_end (s : State) (m0 m : Memory) (n d : Nat) (received sent : List Byte) (hn : n = received.length) :
    returned (emit (sent.map .tx) (withScr m (consumeDraws d (emit (received.map .rx) (advance n (withScr m0 s))))))
      = completed s ⟨received, m, false, sent, d⟩ := by
  subst hn
  simp [completed, returned, emit, advance, withScr, consumeDraws, Effect.events]

@[simp] theorem consumeDraws_zero (s : State) : consumeDraws 0 s = s := rfl

/-! ### Block commands -/

theorem bracketBlock_low {n b : Nat} (draws : Nat) (T : State → Bytes n → Bytes b) (hT : ReadsRegisters T) (s : State)
    (hn : n ≤ Config.scrCap) (hb : Config.outOff + b ≤ Config.scrCap) (ht : s.trig = false) :
    bracketBlock draws T s =
      .next (completed s ⟨[], storeBytes s.scr Config.outOff (T s (loadBytes s.scr Config.inOff n)).toList, true,
        (T s (loadBytes s.scr Config.inOff n)).toList, draws⟩) := by
  have hn' : Config.inOff + n ≤ Config.scrCap := by simpa [Config.inOff] using hn
  rw [bracketBlock, bracket_low _ _ _ ht]
  simp only [transform, memRead_eq _ _ _ _ hn', memWrite_eq _ _ _ _ hb, andThen_next, hT.emit, hT.withTrig]
  rw [trigEnd_high _ (by simp), andThen_next, respondFrom_eq _ _ _ _ hb]
  obtain ⟨⟩ := s
  simp_all [completed, returned, emit, withTrig, withScr, consumeDraws, Effect.events, loadBytes_storeBytes]

theorem bracketBlock_high {n b : Nat} (draws : Nat) (T : State → Bytes n → Bytes b) (s : State) (ht : s.trig = true) :
    bracketBlock draws T s = .fault .trigBeginWhileHigh := bracket_high _ _ _ ht

/-- What `BlockCmd` does with the trigger line low: it completes. -/
theorem blockCmd_low {n b : Nat} (draws : Nat) (T : State → Bytes n → Bytes b) (hT : ReadsRegisters T) (p : Bytes n)
    (s : State) (hn : n ≤ Config.scrCap) (hb : Config.outOff + b ≤ Config.scrCap) (ht : s.trig = false) :
    blockCmd draws T p s = .next (completed s (blockEffect s p.toList (T s p).toList draws)) := by
  rw [blockCmd, recvFixed_eq p s hn, andThen_next, bracketBlock_low draws T hT _ hn hb (by simpa using ht)]
  simp only [hT.emit, hT.advance, hT.withScr, emit_scr, advance_scr, withScr_scr, loadBytes_storeBytes]
  obtain ⟨⟩ := s
  simp_all [completed, blockEffect, blockScratch, emit, advance, withScr, Effect.events]

theorem blockCmd_high {n b : Nat} (draws : Nat) (T : State → Bytes n → Bytes b) (p : Bytes n) (s : State)
    (hn : n ≤ Config.scrCap) (ht : s.trig = true) : blockCmd draws T p s = .fault .trigBeginWhileHigh := by
  rw [blockCmd, recvFixed_eq p s hn, andThen_next, bracketBlock_high _ _ _ (by simpa using ht)]

/-- What a command with its preparation before the bracket does with the trigger line low: it completes. -/
theorem preparedCmd_low {α : Type} {n b : Nat} (draws : Nat) (prepare : State → α) (T : α → Bytes n → Bytes b)
    (hP : ReadsRegisters prepare) (p : Bytes n) (s : State) (hn : n ≤ Config.scrCap)
    (hb : Config.outOff + b ≤ Config.scrCap) (ht : s.trig = false) :
    preparedCmd draws prepare T p s = .next (completed s (blockEffect s p.toList (T (prepare s) p).toList draws)) := by
  rw [preparedCmd, recvFixed_eq p s hn, andThen_next]
  simp only [hP.emit, hP.advance, hP.withScr]
  rw [bracketBlock_low 0 (fun _ => T (prepare s)) (fun _ _ _ _ _ _ => rfl) _ hn hb (by simpa using ht)]
  simp only [consumeDraws_scr, emit_scr, advance_scr, withScr_scr, loadBytes_storeBytes]
  obtain ⟨⟩ := s
  simp_all [completed, blockEffect, blockScratch, emit, advance, withScr, consumeDraws, Effect.events]

theorem preparedCmd_high {α : Type} {n b : Nat} (draws : Nat) (prepare : State → α) (T : α → Bytes n → Bytes b)
    (p : Bytes n) (s : State) (hn : n ≤ Config.scrCap) (ht : s.trig = true) :
    preparedCmd draws prepare T p s = .fault .trigBeginWhileHigh := by
  rw [preparedCmd, recvFixed_eq p s hn, andThen_next, bracketBlock_high _ _ _ (by simpa using ht)]

/-! ### Hardware-backed commands -/

theorem hwDraws_of_accelerates (s : State) (h : accelerates s = true) : hwDraws s = 1 := by
  unfold accelerates at h; unfold hwDraws; simp_all

/-- What `HwCmd` does when the accelerator answers: it completes with a bracket. -/
theorem hwCmd_answers {n : Nat} (soft : State → Bytes n → Bytes n) (hS : ReadsRegisters soft)
    (hD : ∀ k s, soft (consumeDraws k s) = soft s) (p : Bytes n) (s : State) (hn : Config.outOff + n ≤ Config.scrCap)
    (ht : s.trig = false) (ha : accelerates s = true) :
    hwCmd soft p s = .next (completed s (blockEffect s p.toList (soft s p).toList 1)) := by
  have hn' : n ≤ Config.scrCap := by omega
  have ha' : accelerates (emit (p.toList.map .rx)
      (advance n (withScr (storeBytes s.scr Config.inOff p.toList) s))) = true := ha
  have hd : hwDraws (emit (p.toList.map .rx) (advance n (withScr (storeBytes s.scr Config.inOff p.toList) s))) = 1 :=
    hwDraws_of_accelerates s ha
  rw [hwCmd, recvFixed_eq p s hn', andThen_next, chooseRes_eq, if_pos ha',
    bracketBlock_low 0 soft hS _ hn' hn (by simpa using ht)]
  simp only [hD, hS.emit, hS.advance, hS.withScr, hd, consumeDraws_scr, emit_scr, advance_scr, withScr_scr, loadBytes_storeBytes]
  obtain ⟨⟩ := s
  simp_all [completed, blockEffect, blockScratch, emit, advance, withScr, consumeDraws, Effect.events]

/-- What `HwCmd` does when the accelerator is absent or fails: an all-zero response and no bracket. -/
theorem hwCmd_unavailable {n : Nat} (soft : State → Bytes n → Bytes n) (p : Bytes n) (s : State)
    (hn : Config.outOff + n ≤ Config.scrCap) (ha : accelerates s = false) :
    hwCmd soft p s =
      .next (completed s ⟨p.toList, blockScratch s.scr p.toList (zeroBytes n).toList, false, (zeroBytes n).toList,
        hwDraws s⟩) := by
  have hn' : n ≤ Config.scrCap := by omega
  have ha' : accelerates (emit (p.toList.map .rx)
      (advance n (withScr (storeBytes s.scr Config.inOff p.toList) s))) = false := ha
  rw [hwCmd, recvFixed_eq p s hn', andThen_next, chooseRes_eq, ha', if_neg (by simp), memWrite_eq _ _ _ _ hn,
    andThen_next, respondFrom_eq _ _ _ _ hn]
  simp only [withScr_scr, consumeDraws_scr, emit_scr, advance_scr, loadBytes_storeBytes, if_true]
  exact congrArg Host.Outcome.next (silent_end s _ _ n _ p.toList _ (by simp))

theorem hwCmd_high {n : Nat} (soft : State → Bytes n → Bytes n) (p : Bytes n) (s : State)
    (hn : Config.outOff + n ≤ Config.scrCap) (ht : s.trig = true) (ha : accelerates s = true) :
    hwCmd soft p s = .fault .trigBeginWhileHigh := by
  have hn' : n ≤ Config.scrCap := by omega
  have ha' : accelerates (emit (p.toList.map .rx)
      (advance n (withScr (storeBytes s.scr Config.inOff p.toList) s))) = true := ha
  rw [hwCmd, recvFixed_eq p s hn', andThen_next, chooseRes_eq, if_pos ha', bracketBlock_high _ _ _ (by simpa using ht)]

/-! ### Key changes -/

/-- What a key-change command does: it completes, with the register written. -/
theorem keyChange_eq {n : Nat} (write : Bytes n → State → State) (register : State → Bytes n)
    (hw : WritesRegister write register) (henv : ∀ k s, (write k s).env = s.env) (p : Bytes n) (s : State)
    (hn : n ≤ Config.scrCap) :
    keyChange write register p s = .next (completed (write p s) (echoEffect s p.toList)) := by
  have hn' : Config.inOff + n ≤ Config.scrCap := by simpa [Config.inOff] using hn
  have hc : write p (emit (p.toList.map .rx) (advance n (withScr (storeBytes s.scr Config.inOff p.toList) s))) =
      { write p s with
        scr := storeBytes s.scr Config.inOff p.toList
        cpos := s.cpos + n
        trace := s.trace ++ p.toList.map .rx } := hw.commutes p s _ _ _
  obtain ⟨h1, h2, h3, h4, h5⟩ := hw.keeps p s
  have h6 := henv p s
  rw [keyChange, recvFixed_eq p s hn, andThen_next, memRead_eq _ _ _ _ hn']
  simp only [emit_scr, advance_scr, withScr_scr, loadBytes_storeBytes, hc, transmit, andThen_next, finish]
  rw [← hc, hw.reads_back, hc]
  simp [completed, returned, echoEffect, emit, Effect.events, h2, h3, h4, h5, h6]

theorem writes_keyDes : WritesRegister withKeyDes State.keyDes := ⟨fun _ _ => rfl, fun _ _ _ _ _ => rfl, by simp⟩
theorem writes_keyTdes : WritesRegister withKeyTdes State.keyTdes := ⟨fun _ _ => rfl, fun _ _ _ _ _ => rfl, by simp⟩
theorem writes_keyAes128 : WritesRegister withKeyAes128 State.keyAes128 :=
  ⟨fun _ _ => rfl, fun _ _ _ _ _ => rfl, by simp⟩
theorem writes_keyAes256 : WritesRegister withKeyAes256 State.keyAes256 :=
  ⟨fun _ _ => rfl, fun _ _ _ _ _ => rfl, by simp⟩
theorem writes_keySm4 : WritesRegister withKeySm4 State.keySm4 := ⟨fun _ _ => rfl, fun _ _ _ _ _ => rfl, by simp⟩
theorem writes_pwd : WritesRegister withPwd State.pwd := ⟨fun _ _ => rfl, fun _ _ _ _ _ => rfl, by simp⟩

/-! ### Double computation -/

/-- What a double computation on blocks does with the trigger line low: it completes, and sends the first result only if
the results agree. -/
theorem doubleCmd_low {n : Nat} (first second : State → Bytes n → Bytes n) (h1 : ReadsRegisters first)
    (h2 : ReadsRegisters second) (p c p2 : Bytes n) (s : State) (hn : Config.outOff + n ≤ Config.scrCap)
    (ht : s.trig = false) (hc : c = xorBytes (first s p) (fault1 n s)) (hp2 : p2 = xorBytes (second s c) (fault2 n s)) :
    doubleCmd first second p s =
      .next (completed s ⟨p.toList, blockScratch s.scr p.toList c.toList, true,
        if resultsAgree p2 p then c.toList else [], 0⟩) := by
  have hn' : n ≤ Config.scrCap := by omega
  have hi : Config.inOff + n ≤ Config.scrCap := by simpa [Config.inOff] using hn'
  rw [doubleCmd, recvFixed_eq p s hn', andThen_next, bracket_low _ _ _ (by simpa using ht), memRead_eq _ _ _ _ hi]
  simp only [memWrite_eq _ _ _ _ hn, andThen_next, h1.emit, h1.withTrig, h1.advance, h1.withScr, h2.emit, h2.withTrig,
    h2.advance, h2.withScr, (reads_fault1 n).emit, (reads_fault1 n).withTrig, (reads_fault1 n).advance,
    (reads_fault1 n).withScr, (reads_fault2 n).emit, (reads_fault2 n).withTrig, (reads_fault2 n).advance,
    (reads_fault2 n).withScr, emit_scr, withTrig_scr, advance_scr, withScr_scr, loadBytes_storeBytes, ← hc, ← hp2]
  rw [trigEnd_high _ rfl, andThen_next, respondFrom_eq _ _ _ _ hn]
  simp only [emit_scr, withTrig_scr, withScr_scr, loadBytes_storeBytes]
  exact congrArg Host.Outcome.next (window_end_drawless s _ _ n p.toList _ (by simp) ht)

theorem doubleCmd_high {n : Nat} (first second : State → Bytes n → Bytes n) (p : Bytes n) (s : State)
    (hn : n ≤ Config.scrCap) (ht : s.trig = true) : doubleCmd first second p s = .fault .trigBeginWhileHigh := by
  rw [doubleCmd, recvFixed_eq p s hn, andThen_next, bracket_high _ _ _ (by simpa using ht)]

/-! ### RSA -/

/-- `RecvVar` and the operand decode of a well-formed variable frame. -/
theorem recvOperand_eq (len : BitVec 16) (p : List Byte) (s : State) (use : State → Nat → Res)
    (hp : varPayloadOk len p = true) :
    recvOperand len p s use =
      if rsaOutsideDomain s.cfg.rsa p.length (beValue p) then .refused .rsaOperandOutsideDomain
      else use (emit ((varReceived len p).map .rx) (advance (2 + p.length)
        (withScr (storeBytes s.scr Config.inOff p) (withPlen (BitVec.ofNat 16 p.length) s)))) (beValue p) := by
  have hl : p.length = min len.toNat Config.scrCap := by simpa [varPayloadOk] using hp
  have hle : p.length ≤ Config.scrCap := by omega
  have hcap : Config.scrCap = 168 := rfl
  have hpl : (BitVec.ofNat 16 p.length).toNat = p.length := by
    rw [BitVec.toNat_ofNat]; exact Nat.mod_eq_of_lt (by omega)
  rw [recvOperand, recvVar_eq len p s hle, andThen_next, ← hl]
  simp only [emit_plen, advance_plen, withScr_plen, withPlen_plen]
  rw [memRead_eq _ _ _ _ (by rw [hpl]; simpa [Config.inOff] using hle)]
  have hb : ∀ n, n = p.length →
      (loadBytes (storeBytes s.scr Config.inOff p) Config.inOff n).toList = p := by
    rintro n rfl; exact toList_loadBytes_storeBytes _ _ _
  simp only [emit_scr, advance_scr, withScr_scr, emit_cfg, advance_cfg, withScr_cfg, withPlen_cfg,
    hb _ hpl, hpl]

theorem rsaOutsideDomain_eq_false {key : RsaKey} {plen c : Nat} (h : rsaOutsideDomain key plen c = false) :
    plen = key.k ∧ c < key.n := by
  simp [rsaOutsideDomain] at h; omega

/-- What an RSA command does with an operand of its domain and the trigger line low: it completes. -/
theorem rsaCmd_low (draws : State → Nat) (compute : State → Nat → Nat) (hd : ReadsRegisters draws)
    (hc : ReadsRegisters compute) (len : BitVec 16) (p : List Byte) (s : State) (hp : varPayloadOk len p = true)
    (hdom : rsaOutsideDomain s.cfg.rsa p.length (beValue p) = false) (ht : s.trig = false) (out : List Byte)
    (hout : out = (toBE s.cfg.rsa.k (compute s (beValue p))).toList) :
    rsaCmd draws compute len p s =
      .next (completed (withPlen (BitVec.ofNat 16 p.length) s) (rsaEffect s len p out out (draws s))) := by
  subst hout
  have hl : p.length = min len.toNat Config.scrCap := by simpa [varPayloadOk] using hp
  obtain ⟨hk, -⟩ := rsaOutsideDomain_eq_false hdom
  have hk' : Config.inOff + s.cfg.rsa.k ≤ Config.scrCap := by simp only [Config.inOff]; omega
  rw [rsaCmd, recvOperand_eq len p s _ hp, hdom, if_neg (by simp), bracket_low _ _ _ (by simpa using ht)]
  simp only [hc.emit, hc.withTrig, hc.advance, hc.withScr, hc.withPlen, hd.emit, hd.withTrig, hd.advance, hd.withScr,
    hd.withPlen, emit_cfg, withTrig_cfg, advance_cfg, withScr_cfg, withPlen_cfg, memWrite_eq _ _ _ _ hk', andThen_next]
  rw [trigEnd_high _ rfl, andThen_next]
  simp only [emit_cfg, withTrig_cfg, consumeDraws_cfg, withScr_cfg, advance_cfg, withPlen_cfg]
  rw [respondFrom_eq _ _ _ _ hk']
  simp only [emit_scr, withTrig_scr, consumeDraws_scr, advance_scr, withScr_scr, loadBytes_storeBytes]
  refine congrArg Host.Outcome.next ?_
  exact window_end (withPlen (BitVec.ofNat 16 p.length) s) _ _ (2 + p.length) (draws s) (varReceived len p) _
    (by simp only [varReceived, List.length_cons]; omega) ht

theorem rsaCmd_high (draws : State → Nat) (compute : State → Nat → Nat) (len : BitVec 16) (p : List Byte) (s : State)
    (hp : varPayloadOk len p = true) (hdom : rsaOutsideDomain s.cfg.rsa p.length (beValue p) = false)
    (ht : s.trig = true) : rsaCmd draws compute len p s = .fault .trigBeginWhileHigh := by
  rw [rsaCmd, recvOperand_eq len p s _ hp, hdom, if_neg (by simp), bracket_high _ _ _ (by simpa using ht)]

theorem rsaCmd_outside (draws : State → Nat) (compute : State → Nat → Nat) (len : BitVec 16) (p : List Byte)
    (s : State) (hp : varPayloadOk len p = true)
    (hdom : rsaOutsideDomain s.cfg.rsa p.length (beValue p) = true) :
    rsaCmd draws compute len p s = .refused .rsaOperandOutsideDomain := by
  rw [rsaCmd, recvOperand_eq len p s _ hp, hdom, if_pos rfl]

/-- What the double computation of RSA does with an operand of its domain and the trigger line low: it completes, and
sends the first result only if the results agree. -/
theorem rsaDoubleCmd_low (first second : State → Nat → Nat) (h1 : ReadsRegisters first) (h2 : ReadsRegisters second)
    (len : BitVec 16) (p : List Byte) (s : State) (hp : varPayloadOk len p = true)
    (hdom : rsaOutsideDomain s.cfg.rsa p.length (beValue p) = false) (ht : s.trig = false) (a b : Bytes s.cfg.rsa.k)
    (ha : a = xorBytes (toBE s.cfg.rsa.k (first s (beValue p))) (fault1 s.cfg.rsa.k s))
    (hb : b = xorBytes (toBE s.cfg.rsa.k (second s (beValue p))) (fault2 s.cfg.rsa.k s)) :
    rsaDoubleCmd first second len p s =
      .next (completed (withPlen (BitVec.ofNat 16 p.length) s)
        (rsaEffect s len p a.toList (if resultsAgree a b then a.toList else []) 0)) := by
  subst ha hb
  have hl : p.length = min len.toNat Config.scrCap := by simpa [varPayloadOk] using hp
  obtain ⟨hk, -⟩ := rsaOutsideDomain_eq_false hdom
  have hk' : Config.inOff + s.cfg.rsa.k ≤ Config.scrCap := by simp only [Config.inOff]; omega
  rw [rsaDoubleCmd, recvOperand_eq len p s _ hp, hdom, if_neg (by simp), bracket_low _ _ _ (by simpa using ht)]
  simp only [h1.emit, h1.withTrig, h1.advance, h1.withScr, h1.withPlen, h2.emit, h2.withTrig, h2.advance, h2.withScr,
    h2.withPlen, (reads_fault1 s.cfg.rsa.k).emit, (reads_fault1 s.cfg.rsa.k).withTrig, (reads_fault1 s.cfg.rsa.k).advance, (reads_fault1 s.cfg.rsa.k).withScr, (reads_fault1 s.cfg.rsa.k).withPlen,
    (reads_fault2 s.cfg.rsa.k).emit, (reads_fault2 s.cfg.rsa.k).withTrig, (reads_fault2 s.cfg.rsa.k).advance, (reads_fault2 s.cfg.rsa.k).withScr, (reads_fault2 s.cfg.rsa.k).withPlen,
    emit_cfg, withTrig_cfg, advance_cfg, withScr_cfg, withPlen_cfg, memWrite_eq _ _ _ _ hk', andThen_next]
  rw [trigEnd_high _ rfl, andThen_next]
  simp only [emit_cfg, withTrig_cfg, withScr_cfg, advance_cfg, withPlen_cfg]
  rw [respondFrom_eq _ _ _ _ hk']
  simp only [emit_scr, withTrig_scr, advance_scr, withScr_scr, loadBytes_storeBytes]
  refine congrArg Host.Outcome.next ?_
  exact window_end_drawless (withPlen (BitVec.ofNat 16 p.length) s) _ _ (2 + p.length) (varReceived len p) _
    (by simp only [varReceived, List.length_cons]; omega) ht

theorem rsaDoubleCmd_high (first second : State → Nat → Nat) (len : BitVec 16) (p : List Byte) (s : State)
    (hp : varPayloadOk len p = true) (hdom : rsaOutsideDomain s.cfg.rsa p.length (beValue p) = false)
    (ht : s.trig = true) : rsaDoubleCmd first second len p s = .fault .trigBeginWhileHigh := by
  rw [rsaDoubleCmd, recvOperand_eq len p s _ hp, hdom, if_neg (by simp), bracket_high _ _ _ (by simpa using ht)]

theorem rsaDoubleCmd_outside (first second : State → Nat → Nat) (len : BitVec 16) (p : List Byte) (s : State)
    (hp : varPayloadOk len p = true) (hdom : rsaOutsideDomain s.cfg.rsa p.length (beValue p) = true) :
    rsaDoubleCmd first second len p s = .refused .rsaOperandOutsideDomain := by
  rw [rsaDoubleCmd, recvOperand_eq len p s _ hp, hdom, if_pos rfl]

/-! ### Session commands and the exceptional paths -/

/-- What a password check does with the trigger line low: it completes, with `AUTH` written. -/
theorem passwordCmd_low (check : Bytes 4 → State → Bool) (hc : ∀ w, ReadsRegisters (check w)) (p : Bytes 4) (s : State)
    (ht : s.trig = false) :
    passwordCmd check p s =
      .next (completed (withAuth (check p s) s) ⟨p.toList, storeBytes s.scr Config.inOff p.toList, true,
        (checkResponse s.cfg (check p s)).toList, 0⟩) := by
  have h4 : Config.inOff + 4 ≤ Config.scrCap := by decide
  rw [passwordCmd, recvFixed_eq p s (by decide), andThen_next, bracket_low _ _ _ (by simpa using ht),
    memRead_eq _ _ _ _ h4]
  simp only [(hc _).emit, (hc _).withTrig, (hc _).advance, (hc _).withScr, emit_scr, withTrig_scr, advance_scr,
    withScr_scr, loadBytes_storeBytes]
  rw [trigEnd_high _ (by simp), andThen_next]
  obtain ⟨⟩ := s
  simp_all [completed, returned, finish, transmit, emit, advance, withScr, withTrig, withAuth, Effect.events]

theorem passwordCmd_high (check : Bytes 4 → State → Bool) (p : Bytes 4) (s : State) (ht : s.trig = true) :
    passwordCmd check p s = .fault .trigBeginWhileHigh := by
  rw [passwordCmd, recvFixed_eq p s (by decide), andThen_next, bracket_high _ _ _ (by simpa using ht)]

/-- What the reaction to an unknown opcode does: it completes. -/
theorem unknownOpcode_eq (s : State) :
    unknownOpcode s = .next (completed s ⟨[], s.scr, false, unknownResponse s.cfg s.glitched s.auth, 0⟩) := by
  simp [unknownOpcode, transmit, finish, completed, returned, emit, Effect.events]

/-- What a catalogue opcode does when control survives: it echoes the opcode inside its bracket and returns. -/
theorem catalogueCmd_survives (op : Byte) (s : State) (hb : drawBool s 0 = true) (ht : s.trig = false) :
    catalogueCmd op s = .next (scenarioSurvived op s) := by
  rw [catalogueCmd, chooseRes_eq, if_pos hb, bracket_low _ _ _ (by simpa using ht)]
  simp only [transmit, andThen_next]
  rw [trigEnd_high _ (by simp), andThen_next]
  obtain ⟨⟩ := s
  simp_all [scenarioSurvived, returned, finish, emit, withTrig, consumeDraws]

/-- What a catalogue opcode does when the device crashes: the fault path, with the trigger line high. -/
theorem catalogueCmd_crashes (op : Byte) (s : State) (hb : drawBool s 0 = false) (ht : s.trig = false) :
    catalogueCmd op s = .next (scenarioCrashed s) := by
  rw [catalogueCmd, chooseRes_eq, hb, if_neg (by simp), trigBegin_low _ (by simpa using ht), andThen_next]
  simp [scenarioCrashed, faultHalt, emit, withTrig, consumeDraws]

/-- An opcode of `FI_OPCODES` runs a scenario. -/
theorem otherOpcode_scenario (op : Byte) (s : State) (h : s.cfg.fiOpcodes.contains op = true) :
    otherOpcode op s = catalogueCmd op s := if_pos h

/-- An opcode of `EXT_OPCODES` is refused. -/
theorem otherOpcode_external (op : Byte) (s : State) (h : s.cfg.fiOpcodes.contains op = false)
    (he : s.cfg.extOpcodes.contains op = true) : otherOpcode op s = .refused (.externalOpcode op) := by
  rw [otherOpcode, h, if_neg (by simp), if_pos he]

/-- An opcode of neither set is unknown. -/
theorem otherOpcode_unknown (op : Byte) (s : State) (h : s.cfg.fiOpcodes.contains op = false)
    (he : s.cfg.extOpcodes.contains op = false) : otherOpcode op s = unknownOpcode s := by
  rw [otherOpcode, h, he, if_neg (by simp), if_neg (by simp)]

theorem catalogueCmd_high (op : Byte) (s : State) (ht : s.trig = true) :
    catalogueCmd op s = .fault .trigBeginWhileHigh := by
  rw [catalogueCmd, bracket_high _ _ _ (by simpa using ht), trigBegin_high _ (by simpa using ht)]
  cases drawBool s 0 <;> rfl

end Sys2Proof.Machine
end

