-- ==== Sys2Proof/Laws/Exec.lean ====
section
/-! SUPPORT. What `exec` can do, said once for every command: it completes with a known effect, it runs a scenario
that survives or crashes, it refuses an RSA operand or an external opcode, or it finds the trigger line high. Claims about
all commands start from `exec_cases`. -/

-- One proof after another: the checks bound the memory, and with it the number of threads.
set_option Elab.async false

namespace Sys2Proof.Machine

/-- The state with the registers written that a command writes by name; for a password check, `AUTH` with its outcome;
for a variable frame, `PLEN`. -/
def written (i : Instr) (s : State) : State :=
  match i with
  | .desKey k => withKeyDes k s
  | .tdesKey k => withKeyTdes k s
  | .aes128Key k => withKeyAes128 k s
  | .aes256Key k => withKeyAes256 k s
  | .sm4Key k => withKeySm4 k s
  | .pwdSet w => withPwd w s
  | .pwdChk1 w => withAuth (singleCheck w s.pwd (envInput s)) s
  | .pwdChk2 w => withAuth (doubleCheck s.cfg.chkGap w s.pwd (envInput s)) s
  | .rsacrt len _ | .rsasfm len _ | .rsasfmRd len _ | .rsacrtDc len _ =>
    withPlen (BitVec.ofNat 16 (min len.toNat Config.scrCap)) s
  | _ => s

/-- What every effect of a command satisfies: it receives the frame without its opcode, opens a window only with the line
low, and writes the scratch buffer in the regions of its payload and its output only, keeping its canonical form. -/
structure EffectOf (i : Instr) (s : State) (e : Effect) : Prop where
  received : e.received = (encode i).drop 1
  low : e.window = true → s.trig = false
  frame : ∀ a, (a < Config.inOff ∨ Config.inOff + payloadLen i ≤ a) →
    (a < Config.outOff ∨ Config.outOff + outputLen i ≤ a) → memByte e.scratch a = memByte s.scr a
  payload : isRsa i = false → ∀ k, k < payloadLen i →
    memByte e.scratch (Config.inOff + k) = ((encode i).drop 1).getD k 0#8
  wf : Memory.wf s.scr → Memory.wf e.scratch

/-- The ways a command can go. -/
inductive ExecCase (i : Instr) (s : State) : Res → Prop where
  | done (e : Effect) (h : EffectOf i s e) : ExecCase i s (.next (completed (written i s) e))
  | survived (hi : runsScenario s.cfg i = true) (hb : drawBool s 0 = true) (ht : s.trig = false) :
    ExecCase i s (.next (scenarioSurvived (opcodeOf i) s))
  | crashed (hi : runsScenario s.cfg i = true) (hb : drawBool s 0 = false) (ht : s.trig = false) :
    ExecCase i s (.next (scenarioCrashed s))
  | refused (hi : isRsa i = true)
    (hd : rsaOutsideDomain s.cfg.rsa (rsaOperandBytes i).length (beValue (rsaOperandBytes i)) = true) :
    ExecCase i s (.refused .rsaOperandOutsideDomain)
  | external (hi : isExternal s.cfg i = true) : ExecCase i s (.refused (.externalOpcode (opcodeOf i)))
  | high (ht : s.trig = true) : ExecCase i s (.fault .trigBeginWhileHigh)

/-! ### Effects of the shapes -/

theorem blockScratch_effect {n b : Nat} {i : Instr} {s : State} (p : Bytes n) (out : Bytes b) (window : Bool)
    (sent : List Byte) (draws : Nat) (hw : window = true → s.trig = false) (hr : (encode i).drop 1 = p.toList)
    (hp : payloadLen i = n) (ho : outputLen i = b) (hn : n ≤ Config.outOff) (hb : Config.outOff + b ≤ Config.scrCap) :
    EffectOf i s ⟨p.toList, blockScratch s.scr p.toList out.toList, window, sent, draws⟩ where
  received := hr.symm
  low := hw
  frame a h1 h2 := by
    rw [blockScratch, memByte_storeBytes_outside _ _ _ _ (by simpa [ho] using h2),
      memByte_storeBytes_outside _ _ _ _ (by simpa [hp] using h1)]
  payload _ k hk := by
    rw [hp] at hk
    have h0 : Config.inOff = 0 := rfl
    rw [blockScratch, memByte_storeBytes_outside _ _ _ _ (by omega), memByte_storeBytes, hr,
      if_pos (by simp; omega), Nat.add_sub_cancel_left]
  wf h := by
    have h0 : Config.inOff = 0 := rfl
    have h1 : Config.outOff ≤ Config.scrCap := by decide
    exact wf_storeBytes _ _ _ (wf_storeBytes _ _ _ h (by simp; omega)) (by simpa using hb)

theorem payloadScratch_effect {n : Nat} {i : Instr} {s : State} (p : Bytes n) (window : Bool) (sent : List Byte)
    (draws : Nat) (hw : window = true → s.trig = false) (hr : (encode i).drop 1 = p.toList) (hp : payloadLen i = n)
    (hn : n ≤ Config.scrCap) :
    EffectOf i s ⟨p.toList, storeBytes s.scr Config.inOff p.toList, window, sent, draws⟩ where
  received := hr.symm
  low := hw
  frame a h1 _ := by rw [memByte_storeBytes_outside _ _ _ _ (by simpa [hp] using h1)]
  payload _ k hk := by
    rw [hp] at hk
    rw [memByte_storeBytes, hr, if_pos (by simp; omega), Nat.add_sub_cancel_left]
  wf h := wf_storeBytes _ _ _ h (by simpa [Config.inOff] using hn)

theorem emptyFrame_effect {i : Instr} {s : State} (window : Bool) (sent : List Byte) (draws : Nat)
    (hw : window = true → s.trig = false) (hr : (encode i).drop 1 = []) (hp : payloadLen i = 0) :
    EffectOf i s ⟨[], s.scr, window, sent, draws⟩ where
  received := hr.symm
  low := hw
  frame _ _ _ := rfl
  payload _ k hk := by omega
  wf h := h

theorem rsa_effect {i : Instr} {s : State} (len : BitVec 16) (p sent : List Byte) {k : Nat} (out : Bytes k) (draws : Nat)
    (ht : s.trig = false) (hr : (encode i).drop 1 = varReceived len p) (hi : isRsa i = true)
    (hp : payloadLen i = p.length) (hk : p.length = k) (hn : p.length ≤ Config.scrCap) :
    EffectOf i s (rsaEffect s len p out.toList sent draws) where
  received := hr.symm
  low _ := ht
  frame a h1 _ := by
    rw [rsaEffect, memByte_storeBytes_outside _ _ _ _ (by simpa [hp, hk] using h1),
      memByte_storeBytes_outside _ _ _ _ (by simpa [hp] using h1)]
  payload h := by simp [hi] at h
  wf h := by
    have h0 : Config.inOff = 0 := rfl
    exact wf_storeBytes _ _ _ (wf_storeBytes _ _ _ h (by omega)) (by simp; omega)

/-! ### The cases of the shapes -/

section
variable {i : Instr} {s : State}

theorem block_case {n b : Nat} {draws : Nat} {T : State → Bytes n → Bytes b} {p : Bytes n} (hT : ReadsRegisters T)
    (hs : written i s = s) (hr : (encode i).drop 1 = p.toList) (hp : payloadLen i = n) (ho : outputLen i = b)
    (hn : n ≤ Config.outOff) (hb : Config.outOff + b ≤ Config.scrCap) : ExecCase i s (blockCmd draws T p s) := by
  have hc : Config.outOff ≤ Config.scrCap := by decide
  cases ht : s.trig
  · rw [blockCmd_low draws T hT p s (by omega) hb ht, ← congrArg (completed · _) hs]
    exact .done _ (blockScratch_effect p _ _ _ _ (fun _ => ht) hr hp ho hn hb)
  · rw [blockCmd_high draws T p s (by omega) ht]; exact .high ht

theorem prepared_case {α : Type} {n b : Nat} {draws : Nat} {prepare : State → α} {T : α → Bytes n → Bytes b}
    {p : Bytes n} (hP : ReadsRegisters prepare) (hs : written i s = s) (hr : (encode i).drop 1 = p.toList)
    (hp : payloadLen i = n) (ho : outputLen i = b) (hn : n ≤ Config.outOff) (hb : Config.outOff + b ≤ Config.scrCap) :
    ExecCase i s (preparedCmd draws prepare T p s) := by
  have hc : Config.outOff ≤ Config.scrCap := by decide
  cases ht : s.trig
  · rw [preparedCmd_low draws prepare T hP p s (by omega) hb ht, ← congrArg (completed · _) hs]
    exact .done _ (blockScratch_effect p _ _ _ _ (fun _ => ht) hr hp ho hn hb)
  · rw [preparedCmd_high draws prepare T p s (by omega) ht]; exact .high ht

theorem hw_case {n : Nat} {soft : State → Bytes n → Bytes n} {p : Bytes n} (hS : ReadsRegisters soft)
    (hD : ∀ k s, soft (consumeDraws k s) = soft s) (hs : written i s = s) (hr : (encode i).drop 1 = p.toList)
    (hp : payloadLen i = n) (ho : outputLen i = n) (hn : n ≤ Config.outOff)
    (hb : Config.outOff + n ≤ Config.scrCap) : ExecCase i s (hwCmd soft p s) := by
  cases ha : accelerates s
  · rw [hwCmd_unavailable soft p s hb ha, ← congrArg (completed · _) hs]
    exact .done _ (blockScratch_effect p _ _ _ _ (by simp) hr hp ho hn hb)
  · cases ht : s.trig
    · rw [hwCmd_answers soft hS hD p s hb ht ha, ← congrArg (completed · _) hs]
      exact .done _ (blockScratch_effect p _ _ _ _ (fun _ => ht) hr hp ho hn hb)
    · rw [hwCmd_high soft p s hb ht ha]; exact .high ht

theorem key_case {n : Nat} {write : Bytes n → State → State} {register : State → Bytes n} {p : Bytes n}
    (hw : WritesRegister write register) (henv : ∀ k s, (write k s).env = s.env) (hs : written i s = write p s)
    (hr : (encode i).drop 1 = p.toList) (hp : payloadLen i = n) (hn : n ≤ Config.scrCap) :
    ExecCase i s (keyChange write register p s) := by
  rw [keyChange_eq write register hw henv p s hn, ← hs]
  exact .done _ (payloadScratch_effect p _ _ _ (by simp) hr hp hn)

theorem double_case {n : Nat} {first second : State → Bytes n → Bytes n} {p : Bytes n} (h1 : ReadsRegisters first)
    (h2 : ReadsRegisters second) (hs : written i s = s) (hr : (encode i).drop 1 = p.toList) (hp : payloadLen i = n)
    (ho : outputLen i = n) (hn : n ≤ Config.outOff) (hb : Config.outOff + n ≤ Config.scrCap) :
    ExecCase i s (doubleCmd first second p s) := by
  have hc : Config.outOff ≤ Config.scrCap := by decide
  cases ht : s.trig
  · rw [doubleCmd_low first second h1 h2 p _ _ s hb ht rfl rfl, ← congrArg (completed · _) hs]
    exact .done _ (blockScratch_effect p _ _ _ _ (fun _ => ht) hr hp ho hn hb)
  · rw [doubleCmd_high first second p s (by omega) ht]; exact .high ht

theorem rsa_case {draws : State → Nat} {compute : State → Nat → Nat} {len : BitVec 16} {p : List Byte}
    (hd : ReadsRegisters draws) (hc : ReadsRegisters compute) (hv : varPayloadOk len p = true)
    (hs : written i s = withPlen (BitVec.ofNat 16 (min len.toNat Config.scrCap)) s)
    (hr : (encode i).drop 1 = varReceived len p) (hi : isRsa i = true) (ho : rsaOperandBytes i = p)
    (hp : payloadLen i = min len.toNat Config.scrCap) : ExecCase i s (rsaCmd draws compute len p s) := by
  have hl : p.length = min len.toNat Config.scrCap := by simpa [varPayloadOk] using hv
  cases hdom : rsaOutsideDomain s.cfg.rsa p.length (beValue p)
  · cases ht : s.trig
    · rw [rsaCmd_low draws compute hd hc len p s hv hdom ht _ rfl, hl, ← congrArg (completed · _) hs]
      exact .done _ (rsa_effect len p _ _ _ ht hr hi (hp.trans hl.symm) (rsaOutsideDomain_eq_false hdom).1 (by omega))
    · rw [rsaCmd_high draws compute len p s hv hdom ht]; exact .high ht
  · rw [rsaCmd_outside draws compute len p s hv hdom]; exact .refused hi (by rw [ho]; exact hdom)

theorem rsaDouble_case {first second : State → Nat → Nat} {len : BitVec 16} {p : List Byte}
    (h1 : ReadsRegisters first) (h2 : ReadsRegisters second) (hv : varPayloadOk len p = true)
    (hs : written i s = withPlen (BitVec.ofNat 16 (min len.toNat Config.scrCap)) s)
    (hr : (encode i).drop 1 = varReceived len p) (hi : isRsa i = true) (ho : rsaOperandBytes i = p)
    (hp : payloadLen i = min len.toNat Config.scrCap) : ExecCase i s (rsaDoubleCmd first second len p s) := by
  have hl : p.length = min len.toNat Config.scrCap := by simpa [varPayloadOk] using hv
  cases hdom : rsaOutsideDomain s.cfg.rsa p.length (beValue p)
  · cases ht : s.trig
    · rw [rsaDoubleCmd_low first second h1 h2 len p s hv hdom ht _ _ rfl rfl, hl, ← congrArg (completed · _) hs]
      exact .done _ (rsa_effect len p _ _ _ ht hr hi (hp.trans hl.symm) (rsaOutsideDomain_eq_false hdom).1 (by omega))
    · rw [rsaDoubleCmd_high first second len p s hv hdom ht]; exact .high ht
  · rw [rsaDoubleCmd_outside first second len p s hv hdom]; exact .refused hi (by rw [ho]; exact hdom)

theorem password_case {check : Bytes 4 → State → Bool} {p : Bytes 4} (hc : ∀ w, ReadsRegisters (check w))
    (hs : written i s = withAuth (check p s) s) (hr : (encode i).drop 1 = p.toList) (hp : payloadLen i = 4) :
    ExecCase i s (passwordCmd check p s) := by
  cases ht : s.trig
  · rw [passwordCmd_low check hc p s ht, ← hs]
    exact .done _ (payloadScratch_effect p _ _ _ (fun _ => ht) hr hp (by decide))
  · rw [passwordCmd_high check p s ht]; exact .high ht

theorem unknown_case (hs : written i s = s) (hr : (encode i).drop 1 = []) (hp : payloadLen i = 0) :
    ExecCase i s (unknownOpcode s) := by
  rw [unknownOpcode_eq, ← congrArg (completed · _) hs]
  exact .done _ (emptyFrame_effect _ _ _ (by simp) hr hp)

theorem catalogue_case (hi : runsScenario s.cfg i = true) : ExecCase i s (catalogueCmd (opcodeOf i) s) := by
  cases ht : s.trig
  · cases hb : drawBool s 0
    · rw [catalogueCmd_crashes _ s hb ht]; exact .crashed hi hb ht
    · rw [catalogueCmd_survives _ s hb ht]; exact .survived hi hb ht
  · rw [catalogueCmd_high _ s ht]; exact .high ht

theorem other_case {op : Byte} (hi : isBareOpcode i = true) (hop : opcodeOf i = op) (hs : written i s = s)
    (hr : (encode i).drop 1 = []) (hp : payloadLen i = 0) : ExecCase i s (otherOpcode op s) := by
  subst hop
  cases hf : s.cfg.fiOpcodes.contains (opcodeOf i)
  · cases he : s.cfg.extOpcodes.contains (opcodeOf i)
    · rw [otherOpcode_unknown _ s hf he]; exact unknown_case hs hr hp
    · rw [otherOpcode_external _ s hf he]; exact .external (by simp only [isExternal, hi, hf, he, Bool.not_false, Bool.and_self])
  · rw [otherOpcode_scenario _ s hf]; exact catalogue_case (by simp only [runsScenario, hi, hf, Bool.and_self])

end

/-- Every opcode outside the map, those of the default catalogue included, is looked up in the two sets of opcodes. -/
theorem exec_bare {i : Instr} (h : isBareOpcode i = true) (s : State) : exec i s = otherOpcode (opcodeOf i) s := by
  cases i <;> first | rfl | cases h

/-! ### Draws and keys are registers -/

theorem reads_drawDelay : ReadsRegisters drawDelay := fun _ _ _ _ _ _ => rfl
theorem reads_drawOrder (n : Nat) : ReadsRegisters (drawOrder n) := fun _ _ _ _ _ _ => rfl
theorem reads_roundOrder : ReadsRegisters fun s r => drawOrder 16 s (r - 1) := fun _ _ _ _ _ _ => rfl
theorem reads_drawMasks : ReadsRegisters drawMasks := fun _ _ _ _ _ _ => rfl
theorem reads_drawMaskBlock : ReadsRegisters drawMaskBlock := fun _ _ _ _ _ _ => rfl
theorem reads_envInput : ReadsRegisters envInput := fun _ _ _ _ _ _ => rfl

/-! ### The commands -/

theorem aes128Enc_cases (p : Bytes 16) (s : State) : ExecCase (.aes128Enc p) s (execAes128Enc p s) :=
  block_case (n := 16) (b := 16) (fun _ _ _ _ _ _ => rfl) rfl rfl rfl rfl (by decide) (by decide)
theorem aes128Dec_cases (p : Bytes 16) (s : State) : ExecCase (.aes128Dec p) s (execAes128Dec p s) :=
  block_case (n := 16) (b := 16) (fun _ _ _ _ _ _ => rfl) rfl rfl rfl rfl (by decide) (by decide)
theorem aes128Key_cases (p : Bytes 16) (s : State) : ExecCase (.aes128Key p) s (execAes128Key p s) :=
  key_case (n := 16) writes_keyAes128 (fun _ _ => rfl) rfl rfl rfl (by decide)
theorem aes128EncTbl_cases (p : Bytes 16) (s : State) : ExecCase (.aes128EncTbl p) s (execAes128EncTbl p s) :=
  block_case (n := 16) (b := 16) (fun _ _ _ _ _ _ => rfl) rfl rfl rfl rfl (by decide) (by decide)
theorem aes128DecTbl_cases (p : Bytes 16) (s : State) : ExecCase (.aes128DecTbl p) s (execAes128DecTbl p s) :=
  block_case (n := 16) (b := 16) (fun _ _ _ _ _ _ => rfl) rfl rfl rfl rfl (by decide) (by decide)
theorem aes128EncHw_cases (p : Bytes 16) (s : State) : ExecCase (.aes128EncHw p) s (execAes128EncHw p s) :=
  hw_case (n := 16) (fun _ _ _ _ _ _ => rfl) (fun _ _ => rfl) rfl rfl rfl rfl (by decide) (by decide)
theorem aes128DecHw_cases (p : Bytes 16) (s : State) : ExecCase (.aes128DecHw p) s (execAes128DecHw p s) :=
  hw_case (n := 16) (fun _ _ _ _ _ _ => rfl) (fun _ _ => rfl) rfl rfl rfl rfl (by decide) (by decide)
theorem aes128EncMt_cases (p : Bytes 16) (s : State) : ExecCase (.aes128EncMt p) s (execAes128EncMt p s) :=
  prepared_case (n := 16) (b := 16) (fun s m x c b es => congrArg (mtPrepare 4 s.keyAes128) (reads_drawMasks s m x c b es)) rfl rfl rfl rfl
    (by decide) (by decide)
theorem aes128EncMtp_cases (p : Bytes 16) (s : State) : ExecCase (.aes128EncMtp p) s (execAes128EncMtp p s) :=
  block_case (n := 16) (b := 16) (fun s m x c b es =>
    congrArg (fun k => mtEncrypt (mtPrepare 4 s.keyAes128 k)) (reads_drawMasks s m x c b es)) rfl rfl rfl rfl (by decide) (by decide)
theorem aes128EncMb_cases (p : Bytes 16) (s : State) : ExecCase (.aes128EncMb p) s (execAes128EncMb p s) :=
  prepared_case (n := 16) (b := 16) (fun s m x c b es => congrArg (Prod.mk s.keyAes128) (reads_drawMaskBlock s m x c b es)) rfl rfl rfl rfl
    (by decide) (by decide)
theorem aes128EncMbx_cases (p : Bytes 32) (s : State) : ExecCase (.aes128EncMbx p) s (execAes128EncMbx p s) :=
  block_case (n := 32) (b := 16) (fun _ _ _ _ _ _ => rfl) rfl rfl rfl rfl (by decide) (by decide)
theorem aes128EncRd_cases (p : Bytes 16) (s : State) : ExecCase (.aes128EncRd p) s (execAes128EncRd p s) :=
  block_case (n := 16) (b := 16) (fun s m x c b es =>
    congrArg (fun d => aesCipherRd d (aesKeyExpansion 4 s.keyAes128)) (reads_drawDelay s m x c b es)) rfl rfl rfl rfl (by decide) (by decide)
theorem aes128EncRs_cases (p : Bytes 16) (s : State) : ExecCase (.aes128EncRs p) s (execAes128EncRs p s) :=
  block_case (n := 16) (b := 16) (fun s m x c b es =>
    congrArg (fun d => aesCipherRs d (aesKeyExpansion 4 s.keyAes128)) (reads_roundOrder s m x c b es)) rfl rfl rfl rfl (by decide) (by decide)
theorem aes128EncMa_cases (p : Bytes 16) (s : State) : ExecCase (.aes128EncMa p) s (execAes128EncMa p s) :=
  block_case (n := 16) (b := 16) (fun _ _ _ _ _ _ => rfl) rfl rfl rfl rfl (by decide) (by decide)
theorem aes128EncDc_cases (p : Bytes 16) (s : State) : ExecCase (.aes128EncDc p) s (execAes128EncDc p s) :=
  double_case (n := 16) (fun _ _ _ _ _ _ => rfl) (fun _ _ _ _ _ _ => rfl) rfl rfl rfl rfl (by decide) (by decide)
theorem aes256Enc_cases (p : Bytes 16) (s : State) : ExecCase (.aes256Enc p) s (execAes256Enc p s) :=
  block_case (n := 16) (b := 16) (fun _ _ _ _ _ _ => rfl) rfl rfl rfl rfl (by decide) (by decide)
theorem aes256Dec_cases (p : Bytes 16) (s : State) : ExecCase (.aes256Dec p) s (execAes256Dec p s) :=
  block_case (n := 16) (b := 16) (fun _ _ _ _ _ _ => rfl) rfl rfl rfl rfl (by decide) (by decide)
theorem aes256Key_cases (p : Bytes 32) (s : State) : ExecCase (.aes256Key p) s (execAes256Key p s) :=
  key_case (n := 32) writes_keyAes256 (fun _ _ => rfl) rfl rfl rfl (by decide)
theorem aes256EncHw_cases (p : Bytes 16) (s : State) : ExecCase (.aes256EncHw p) s (execAes256EncHw p s) :=
  hw_case (n := 16) (fun _ _ _ _ _ _ => rfl) (fun _ _ => rfl) rfl rfl rfl rfl (by decide) (by decide)
theorem aes256DecHw_cases (p : Bytes 16) (s : State) : ExecCase (.aes256DecHw p) s (execAes256DecHw p s) :=
  hw_case (n := 16) (fun _ _ _ _ _ _ => rfl) (fun _ _ => rfl) rfl rfl rfl rfl (by decide) (by decide)
theorem aes256EncMt_cases (p : Bytes 16) (s : State) : ExecCase (.aes256EncMt p) s (execAes256EncMt p s) :=
  prepared_case (n := 16) (b := 16) (fun s m x c b es => congrArg (mtPrepare 8 s.keyAes256) (reads_drawMasks s m x c b es)) rfl rfl rfl rfl
    (by decide) (by decide)
theorem aes256EncMb_cases (p : Bytes 16) (s : State) : ExecCase (.aes256EncMb p) s (execAes256EncMb p s) :=
  prepared_case (n := 16) (b := 16) (fun s m x c b es => congrArg (Prod.mk s.keyAes256) (reads_drawMaskBlock s m x c b es)) rfl rfl rfl rfl
    (by decide) (by decide)
theorem desEnc_cases (p : Bytes 8) (s : State) : ExecCase (.desEnc p) s (execDesEnc p s) :=
  block_case (n := 8) (b := 8) (fun _ _ _ _ _ _ => rfl) rfl rfl rfl rfl (by decide) (by decide)
theorem desDec_cases (p : Bytes 8) (s : State) : ExecCase (.desDec p) s (execDesDec p s) :=
  block_case (n := 8) (b := 8) (fun _ _ _ _ _ _ => rfl) rfl rfl rfl rfl (by decide) (by decide)
theorem desKey_cases (p : Bytes 8) (s : State) : ExecCase (.desKey p) s (execDesKey p s) :=
  key_case (n := 8) writes_keyDes (fun _ _ => rfl) rfl rfl rfl (by decide)
theorem desEncRd_cases (p : Bytes 8) (s : State) : ExecCase (.desEncRd p) s (execDesEncRd p s) :=
  block_case (n := 8) (b := 8) (fun s m x c b es => congrArg (desEncryptRd · s.keyDes) (reads_drawDelay s m x c b es)) rfl rfl rfl rfl (by decide) (by decide)
theorem desEncRs_cases (p : Bytes 8) (s : State) : ExecCase (.desEncRs p) s (execDesEncRs p s) :=
  block_case (n := 8) (b := 8) (fun s m x c b es => congrArg (desEncryptRs · s.keyDes) (reads_drawOrder 8 s m x c b es)) rfl rfl rfl rfl (by decide) (by decide)
theorem desEncMa_cases (p : Bytes 8) (s : State) : ExecCase (.desEncMa p) s (execDesEncMa p s) :=
  block_case (n := 8) (b := 8) (fun _ _ _ _ _ _ => rfl) rfl rfl rfl rfl (by decide) (by decide)
theorem desEncDc_cases (p : Bytes 8) (s : State) : ExecCase (.desEncDc p) s (execDesEncDc p s) :=
  double_case (n := 8) (fun _ _ _ _ _ _ => rfl) (fun _ _ _ _ _ _ => rfl) rfl rfl rfl rfl (by decide) (by decide)
theorem tdesEnc_cases (p : Bytes 8) (s : State) : ExecCase (.tdesEnc p) s (execTdesEnc p s) :=
  block_case (n := 8) (b := 8) (fun _ _ _ _ _ _ => rfl) rfl rfl rfl rfl (by decide) (by decide)
theorem tdesDec_cases (p : Bytes 8) (s : State) : ExecCase (.tdesDec p) s (execTdesDec p s) :=
  block_case (n := 8) (b := 8) (fun _ _ _ _ _ _ => rfl) rfl rfl rfl rfl (by decide) (by decide)
theorem tdesKey_cases (p : Bytes 24) (s : State) : ExecCase (.tdesKey p) s (execTdesKey p s) :=
  key_case (n := 24) writes_keyTdes (fun _ _ => rfl) rfl rfl rfl (by decide)
theorem tdesEncHw_cases (p : Bytes 8) (s : State) : ExecCase (.tdesEncHw p) s (execTdesEncHw p s) :=
  hw_case (n := 8) (fun _ _ _ _ _ _ => rfl) (fun _ _ => rfl) rfl rfl rfl rfl (by decide) (by decide)
theorem tdesDecHw_cases (p : Bytes 8) (s : State) : ExecCase (.tdesDecHw p) s (execTdesDecHw p s) :=
  hw_case (n := 8) (fun _ _ _ _ _ _ => rfl) (fun _ _ => rfl) rfl rfl rfl rfl (by decide) (by decide)
theorem sm4Enc_cases (p : Bytes 16) (s : State) : ExecCase (.sm4Enc p) s (execSm4Enc p s) :=
  block_case (n := 16) (b := 16) (fun _ _ _ _ _ _ => rfl) rfl rfl rfl rfl (by decide) (by decide)
theorem sm4Dec_cases (p : Bytes 16) (s : State) : ExecCase (.sm4Dec p) s (execSm4Dec p s) :=
  block_case (n := 16) (b := 16) (fun _ _ _ _ _ _ => rfl) rfl rfl rfl rfl (by decide) (by decide)
theorem sm4Key_cases (p : Bytes 16) (s : State) : ExecCase (.sm4Key p) s (execSm4Key p s) :=
  key_case (n := 16) writes_keySm4 (fun _ _ => rfl) rfl rfl rfl (by decide)
theorem sm4EncRd_cases (p : Bytes 16) (s : State) : ExecCase (.sm4EncRd p) s (execSm4EncRd p s) :=
  block_case (n := 16) (b := 16) (fun s m x c b es => congrArg (sm4EncryptRd · s.keySm4) (reads_drawDelay s m x c b es)) rfl rfl rfl rfl (by decide) (by decide)
theorem rsacrt_cases (len : BitVec 16) (p : List Byte) (s : State) (h : varPayloadOk len p = true) :
    ExecCase (.rsacrt len p) s (execRsacrt len p s) :=
  rsa_case (fun _ _ _ _ _ _ => rfl) (fun _ _ _ _ _ _ => rfl) h rfl rfl rfl rfl rfl
theorem rsasfm_cases (len : BitVec 16) (p : List Byte) (s : State) (h : varPayloadOk len p = true) :
    ExecCase (.rsasfm len p) s (execRsasfm len p s) :=
  rsa_case (fun _ _ _ _ _ _ => rfl) (fun _ _ _ _ _ _ => rfl) h rfl rfl rfl rfl rfl
theorem rsasfmRd_cases (len : BitVec 16) (p : List Byte) (s : State) (h : varPayloadOk len p = true) :
    ExecCase (.rsasfmRd len p) s (execRsasfmRd len p s) :=
  rsa_case (fun _ _ _ _ _ _ => rfl) (fun s m x c b es =>
    congrArg (fun d => rsaSfmRd (fun i => d (bitLen s.cfg.rsa.d - 1 - i)) s.cfg.rsa) (reads_drawDelay s m x c b es)) h rfl rfl rfl rfl rfl
theorem rsacrtDc_cases (len : BitVec 16) (p : List Byte) (s : State) (h : varPayloadOk len p = true) :
    ExecCase (.rsacrtDc len p) s (execRsacrtDc len p s) :=
  rsaDouble_case (fun _ _ _ _ _ _ => rfl) (fun _ _ _ _ _ _ => rfl) h rfl rfl rfl rfl rfl
theorem pwdChk1_cases (p : Bytes 4) (s : State) : ExecCase (.pwdChk1 p) s (execPwdChk1 p s) :=
  password_case (fun _ => fun _ _ _ _ _ _ => rfl) rfl rfl rfl
theorem pwdChk2_cases (p : Bytes 4) (s : State) : ExecCase (.pwdChk2 p) s (execPwdChk2 p s) :=
  password_case (fun _ => fun _ _ _ _ _ _ => rfl) rfl rfl rfl
theorem pwdSet_cases (p : Bytes 4) (s : State) : ExecCase (.pwdSet p) s (execPwdSet p s) :=
  key_case (n := 4) writes_pwd (fun _ _ => rfl) rfl rfl rfl (by decide)
theorem fi0_cases (s : State) : ExecCase .fi0 s (execFi0 s) := other_case rfl rfl rfl rfl rfl
theorem fi1_cases (s : State) : ExecCase .fi1 s (execFi1 s) := other_case rfl rfl rfl rfl rfl
theorem fi2_cases (s : State) : ExecCase .fi2 s (execFi2 s) := other_case rfl rfl rfl rfl rfl
theorem fi3_cases (s : State) : ExecCase .fi3 s (execFi3 s) := other_case rfl rfl rfl rfl rfl
theorem fi4_cases (s : State) : ExecCase .fi4 s (execFi4 s) := other_case rfl rfl rfl rfl rfl
theorem fi5_cases (s : State) : ExecCase .fi5 s (execFi5 s) := other_case rfl rfl rfl rfl rfl
theorem fi6_cases (s : State) : ExecCase .fi6 s (execFi6 s) := other_case rfl rfl rfl rfl rfl
theorem fi7_cases (s : State) : ExecCase .fi7 s (execFi7 s) := other_case rfl rfl rfl rfl rfl
theorem fi8_cases (s : State) : ExecCase .fi8 s (execFi8 s) := other_case rfl rfl rfl rfl rfl
theorem fi9_cases (s : State) : ExecCase .fi9 s (execFi9 s) := other_case rfl rfl rfl rfl rfl
theorem fi10_cases (s : State) : ExecCase .fi10 s (execFi10 s) := other_case rfl rfl rfl rfl rfl
theorem fi11_cases (s : State) : ExecCase .fi11 s (execFi11 s) := other_case rfl rfl rfl rfl rfl
theorem fi12_cases (s : State) : ExecCase .fi12 s (execFi12 s) := other_case rfl rfl rfl rfl rfl
theorem fi13_cases (s : State) : ExecCase .fi13 s (execFi13 s) := other_case rfl rfl rfl rfl rfl
theorem fi14_cases (s : State) : ExecCase .fi14 s (execFi14 s) := other_case rfl rfl rfl rfl rfl
theorem fi15_cases (s : State) : ExecCase .fi15 s (execFi15 s) := other_case rfl rfl rfl rfl rfl
theorem unknown_cases (op : Byte) (s : State) : ExecCase (.unknown op) s (execUnknown op s) :=
  other_case rfl rfl rfl rfl rfl

/-- What `exec` of a well-formed command can do. -/
theorem exec_cases (i : Instr) (s : State) (hw : i.wf = true) : ExecCase i s (exec i s) := by
  cases i with
  | aes128Enc p => exact aes128Enc_cases p s
  | aes128Dec p => exact aes128Dec_cases p s
  | aes128Key p => exact aes128Key_cases p s
  | aes128EncTbl p => exact aes128EncTbl_cases p s
  | aes128DecTbl p => exact aes128DecTbl_cases p s
  | aes128EncHw p => exact aes128EncHw_cases p s
  | aes128DecHw p => exact aes128DecHw_cases p s
  | aes128EncMt p => exact aes128EncMt_cases p s
  | aes128EncMtp p => exact aes128EncMtp_cases p s
  | aes128EncMb p => exact aes128EncMb_cases p s
  | aes128EncMbx p => exact aes128EncMbx_cases p s
  | aes128EncRd p => exact aes128EncRd_cases p s
  | aes128EncRs p => exact aes128EncRs_cases p s
  | aes128EncMa p => exact aes128EncMa_cases p s
  | aes128EncDc p => exact aes128EncDc_cases p s
  | aes256Enc p => exact aes256Enc_cases p s
  | aes256Dec p => exact aes256Dec_cases p s
  | aes256Key p => exact aes256Key_cases p s
  | aes256EncHw p => exact aes256EncHw_cases p s
  | aes256DecHw p => exact aes256DecHw_cases p s
  | aes256EncMt p => exact aes256EncMt_cases p s
  | aes256EncMb p => exact aes256EncMb_cases p s
  | desEnc p => exact desEnc_cases p s
  | desDec p => exact desDec_cases p s
  | desKey p => exact desKey_cases p s
  | desEncRd p => exact desEncRd_cases p s
  | desEncRs p => exact desEncRs_cases p s
  | desEncMa p => exact desEncMa_cases p s
  | desEncDc p => exact desEncDc_cases p s
  | tdesEnc p => exact tdesEnc_cases p s
  | tdesDec p => exact tdesDec_cases p s
  | tdesKey p => exact tdesKey_cases p s
  | tdesEncHw p => exact tdesEncHw_cases p s
  | tdesDecHw p => exact tdesDecHw_cases p s
  | sm4Enc p => exact sm4Enc_cases p s
  | sm4Dec p => exact sm4Dec_cases p s
  | sm4Key p => exact sm4Key_cases p s
  | sm4EncRd p => exact sm4EncRd_cases p s
  | rsacrt len p => exact rsacrt_cases len p s hw
  | rsasfm len p => exact rsasfm_cases len p s hw
  | rsasfmRd len p => exact rsasfmRd_cases len p s hw
  | rsacrtDc len p => exact rsacrtDc_cases len p s hw
  | pwdChk1 p => exact pwdChk1_cases p s
  | pwdChk2 p => exact pwdChk2_cases p s
  | pwdSet p => exact pwdSet_cases p s
  | fi0 => exact fi0_cases s
  | fi1 => exact fi1_cases s
  | fi2 => exact fi2_cases s
  | fi3 => exact fi3_cases s
  | fi4 => exact fi4_cases s
  | fi5 => exact fi5_cases s
  | fi6 => exact fi6_cases s
  | fi7 => exact fi7_cases s
  | fi8 => exact fi8_cases s
  | fi9 => exact fi9_cases s
  | fi10 => exact fi10_cases s
  | fi11 => exact fi11_cases s
  | fi12 => exact fi12_cases s
  | fi13 => exact fi13_cases s
  | fi14 => exact fi14_cases s
  | fi15 => exact fi15_cases s
  | unknown op => exact unknown_cases op s

end Sys2Proof.Machine
end

