-- ==== Sys2Proof/Laws/PerInstr.lean ====
section
/-! SUPPORT. Laws that hold of every instruction, one lemma per constructor. `FrameLength`: the frame of a well-formed
command has the length that 30_encoding.md rule R93 gives it. -/

-- One proof after another: the checks bound the memory, and with it the number of threads.
set_option Elab.async false

namespace Sys2Proof.Laws.FrameLength

/-- The frame of a well-formed command is `FrameLen` bytes long. -/
def Statement (i : Instr) : Prop := i.wf = true → (encode i).length = frameLen i

/-- The length of the frame of a variable command. -/
theorem var_length (op : Byte) (len : BitVec 16) (payload : List Byte) (h : varPayloadOk len payload = true) :
    (varBytes op len payload).length = 3 + min len.toNat Config.scrCap := by
  have : payload.length = min len.toNat Config.scrCap := by simpa [varPayloadOk] using h
  simp only [varBytes, List.length_cons]
  omega

theorem aes128Enc (payload : Bytes 16) : Statement (.aes128Enc payload) := by simp [Statement, encode, frameLen]
theorem aes128Dec (payload : Bytes 16) : Statement (.aes128Dec payload) := by simp [Statement, encode, frameLen]
theorem aes128Key (payload : Bytes 16) : Statement (.aes128Key payload) := by simp [Statement, encode, frameLen]
theorem aes128EncTbl (payload : Bytes 16) : Statement (.aes128EncTbl payload) := by simp [Statement, encode, frameLen]
theorem aes128DecTbl (payload : Bytes 16) : Statement (.aes128DecTbl payload) := by simp [Statement, encode, frameLen]
theorem aes128EncHw (payload : Bytes 16) : Statement (.aes128EncHw payload) := by simp [Statement, encode, frameLen]
theorem aes128DecHw (payload : Bytes 16) : Statement (.aes128DecHw payload) := by simp [Statement, encode, frameLen]
theorem aes128EncMt (payload : Bytes 16) : Statement (.aes128EncMt payload) := by simp [Statement, encode, frameLen]
theorem aes128EncMtp (payload : Bytes 16) : Statement (.aes128EncMtp payload) := by simp [Statement, encode, frameLen]
theorem aes128EncMb (payload : Bytes 16) : Statement (.aes128EncMb payload) := by simp [Statement, encode, frameLen]
theorem aes128EncMbx (payload : Bytes 32) : Statement (.aes128EncMbx payload) := by simp [Statement, encode, frameLen]
theorem aes128EncRd (payload : Bytes 16) : Statement (.aes128EncRd payload) := by simp [Statement, encode, frameLen]
theorem aes128EncRs (payload : Bytes 16) : Statement (.aes128EncRs payload) := by simp [Statement, encode, frameLen]
theorem aes128EncMa (payload : Bytes 16) : Statement (.aes128EncMa payload) := by simp [Statement, encode, frameLen]
theorem aes128EncDc (payload : Bytes 16) : Statement (.aes128EncDc payload) := by simp [Statement, encode, frameLen]
theorem aes256Enc (payload : Bytes 16) : Statement (.aes256Enc payload) := by simp [Statement, encode, frameLen]
theorem aes256Dec (payload : Bytes 16) : Statement (.aes256Dec payload) := by simp [Statement, encode, frameLen]
theorem aes256Key (payload : Bytes 32) : Statement (.aes256Key payload) := by simp [Statement, encode, frameLen]
theorem aes256EncHw (payload : Bytes 16) : Statement (.aes256EncHw payload) := by simp [Statement, encode, frameLen]
theorem aes256DecHw (payload : Bytes 16) : Statement (.aes256DecHw payload) := by simp [Statement, encode, frameLen]
theorem aes256EncMt (payload : Bytes 16) : Statement (.aes256EncMt payload) := by simp [Statement, encode, frameLen]
theorem aes256EncMb (payload : Bytes 16) : Statement (.aes256EncMb payload) := by simp [Statement, encode, frameLen]
theorem desEnc (payload : Bytes 8) : Statement (.desEnc payload) := by simp [Statement, encode, frameLen]
theorem desDec (payload : Bytes 8) : Statement (.desDec payload) := by simp [Statement, encode, frameLen]
theorem desKey (payload : Bytes 8) : Statement (.desKey payload) := by simp [Statement, encode, frameLen]
theorem desEncRd (payload : Bytes 8) : Statement (.desEncRd payload) := by simp [Statement, encode, frameLen]
theorem desEncRs (payload : Bytes 8) : Statement (.desEncRs payload) := by simp [Statement, encode, frameLen]
theorem desEncMa (payload : Bytes 8) : Statement (.desEncMa payload) := by simp [Statement, encode, frameLen]
theorem desEncDc (payload : Bytes 8) : Statement (.desEncDc payload) := by simp [Statement, encode, frameLen]
theorem tdesEnc (payload : Bytes 8) : Statement (.tdesEnc payload) := by simp [Statement, encode, frameLen]
theorem tdesDec (payload : Bytes 8) : Statement (.tdesDec payload) := by simp [Statement, encode, frameLen]
theorem tdesKey (payload : Bytes 24) : Statement (.tdesKey payload) := by simp [Statement, encode, frameLen]
theorem tdesEncHw (payload : Bytes 8) : Statement (.tdesEncHw payload) := by simp [Statement, encode, frameLen]
theorem tdesDecHw (payload : Bytes 8) : Statement (.tdesDecHw payload) := by simp [Statement, encode, frameLen]
theorem sm4Enc (payload : Bytes 16) : Statement (.sm4Enc payload) := by simp [Statement, encode, frameLen]
theorem sm4Dec (payload : Bytes 16) : Statement (.sm4Dec payload) := by simp [Statement, encode, frameLen]
theorem sm4Key (payload : Bytes 16) : Statement (.sm4Key payload) := by simp [Statement, encode, frameLen]
theorem sm4EncRd (payload : Bytes 16) : Statement (.sm4EncRd payload) := by simp [Statement, encode, frameLen]
theorem rsacrt (len : BitVec 16) (payload : List Byte) : Statement (.rsacrt len payload) := var_length _ len payload
theorem rsasfm (len : BitVec 16) (payload : List Byte) : Statement (.rsasfm len payload) := var_length _ len payload
theorem rsasfmRd (len : BitVec 16) (payload : List Byte) : Statement (.rsasfmRd len payload) := var_length _ len payload
theorem rsacrtDc (len : BitVec 16) (payload : List Byte) : Statement (.rsacrtDc len payload) := var_length _ len payload
theorem pwdChk1 (payload : Bytes 4) : Statement (.pwdChk1 payload) := by simp [Statement, encode, frameLen]
theorem pwdChk2 (payload : Bytes 4) : Statement (.pwdChk2 payload) := by simp [Statement, encode, frameLen]
theorem pwdSet (payload : Bytes 4) : Statement (.pwdSet payload) := by simp [Statement, encode, frameLen]
theorem fi0 : Statement .fi0 := fun _ => rfl
theorem fi1 : Statement .fi1 := fun _ => rfl
theorem fi2 : Statement .fi2 := fun _ => rfl
theorem fi3 : Statement .fi3 := fun _ => rfl
theorem fi4 : Statement .fi4 := fun _ => rfl
theorem fi5 : Statement .fi5 := fun _ => rfl
theorem fi6 : Statement .fi6 := fun _ => rfl
theorem fi7 : Statement .fi7 := fun _ => rfl
theorem fi8 : Statement .fi8 := fun _ => rfl
theorem fi9 : Statement .fi9 := fun _ => rfl
theorem fi10 : Statement .fi10 := fun _ => rfl
theorem fi11 : Statement .fi11 := fun _ => rfl
theorem fi12 : Statement .fi12 := fun _ => rfl
theorem fi13 : Statement .fi13 := fun _ => rfl
theorem fi14 : Statement .fi14 := fun _ => rfl
theorem fi15 : Statement .fi15 := fun _ => rfl
theorem unknown (op : Byte) : Statement (.unknown op) := fun _ => rfl

end Sys2Proof.Laws.FrameLength
end

