-- ==== Sys2Proof/Tests/Slice0.lean ====
section
/-! SUPPORT. The model's own tests: the smoke test of well-formedness, the decoding of every row of the opcode table, one
step of most commands against the vectors of spec/95_test_vectors.md to 97_test_vectors_session_programs.md, and for every
obligation with hypotheses a state and operands that meet them. -/

open Sys2Proof Sys2Proof.Machine

namespace Sys2Proof.Tests

section
-- One proof after another: the checks bound the memory, and with it the number of threads.
set_option Elab.async false

/-! ### Helpers -/

/-- `n` bytes written as one hexadecimal number, the first byte the most significant. -/
def bytes : Nat → Nat → List Byte
  | 0, _ => []
  | n + 1, x => bytes n (x / 256) ++ [BitVec.ofNat 8 x]

/-- The same as a string of fixed length. -/
def block (n x : Nat) : Bytes n := Vector.ofFn fun i => BitVec.ofNat 8 (x / 256 ^ (n - 1 - i.val))

/-- The configuration `TC` of 95_test_vectors.md Part 0, with the example key of 46_rsa.md rule R307. -/
def bench : Config where
  defKeyDes := block 8 0x0123456789abcdef
  defKeyTdes := block 24 0x0123456789abcdef23456789abcdef01456789abcdef0123
  defKeyAes128 := block 16 0x2b7e151628aed2a6abf7158809cf4f3c
  defKeyAes256 := block 32 0x603deb1015ca71be2b73aef0857d77811f352c073b6108d72d9810a30914dff4
  defKeySm4 := block 16 0x0123456789abcdeffedcba9876543210
  defPwd := block 4 0x31323334
  respOk := block 2 0x4f4b
  respFail := block 2 0x4e4f
  respSecret := block 8 0x5345435245542121
  respBadcmd := bytes 7 0x426164436d640a
  bootLoopExpect := 1000
  rdMax := 9
  maOffset := 5
  chkGap := 3
  hwPresent := true
  rsa := ⟨0xffffffffffffff720000000000001321, 0x93c96c3693c96be3727c8d83727c98e1, 0xffffffffffffffc5, 0xffffffffffffffad,
    0x15b1ea4e15b1ea49, 0xf0940f6bf0940f1d, 0x3555555555555549, 16⟩
  fiOpcodes := defaultFiOpcodes
  extOpcodes := defaultExtOpcodes

/-- A well-formed RSA key of two bytes: `p = 17`, `q = 23`, `n = 391 = 0x187`, `d = 3`. -/
def smallKey : RsaKey := ⟨391, 3, 17, 23, 3, 3, 3, 2⟩

/-- `TC` with the small RSA key. -/
def small : Config := { bench with rsa := smallKey }

/-- `TC` with other sets of opcodes: 0x17 and 0xE1 name scenarios, 0x17 and 0x9A external collaborators. -/
def otherSets : Config := { bench with fiOpcodes := [0x17, 0xE1], extOpcodes := [0x17, 0x9A] }

/-- The state after reset of a device of configuration `cfg`, in which the host has sent `frame`. -/
def sent (cfg : Config) (frame : List Byte) (draws : List Nat := []) (e : EnvInput := .quiet) : State :=
  { State.resetWith cfg false false with rx := frame, draws := draws, env := [e] }

/-- The trace that a step leaves, if it goes on. -/
def traceOf : Res → Option (List Event)
  | .next s => some s.trace
  | _ => none

/-- Whether a step goes on. -/
def goesOn : Res → Bool
  | .next _ => true
  | _ => false

theorem of_goesOn {r : Res} (h : goesOn r = true) : ∃ t, r = .next t := by
  cases r <;> first | exact ⟨_, rfl⟩ | cases h

/-- A trace with a bracket, and one without. -/
def bracketed (frame out : List Byte) : List Event := frame.map .rx ++ [.trigRise, .trigFall] ++ out.map .tx
def unbracketed (frame out : List Byte) : List Event := frame.map .rx ++ out.map .tx

/-- Where nothing is injected, no byte of a perturbation is set. -/
theorem xor_quiet (n : Nat) : perturbation n [] = zeroBytes n := by
  ext i hi; simp [perturbation, zeroBytes]

/-! ### Well-formedness refuses -/

theorem test_wf_rsacrt_short : (Instr.rsacrt 2 [0]).wf = false := by decide +kernel
theorem test_wf_rsasfm_long : (Instr.rsasfm 0 [0]).wf = false := by decide +kernel
theorem test_wf_rsasfmRd_unclipped : (Instr.rsasfmRd 169 (List.replicate 169 0)).wf = false := by decide +kernel
theorem test_wf_rsacrtDc_short : (Instr.rsacrtDc 168 (List.replicate 167 0)).wf = false := by decide +kernel
theorem test_wf_unknown_in_map : ∀ op ∈ [0x10#8, 0x5C#8, 0x6F#8, 0x72#8, 0xE0#8, 0xEF#8],
    (Instr.unknown op).wf = false := by decide +kernel
theorem test_wf_unknown_range_ends : ∀ op ∈ [0x00#8, 0x0F#8, 0x17#8, 0x24#8, 0x3B#8, 0x62#8, 0xDF#8, 0xF0#8, 0xFF#8],
    (Instr.unknown op).wf = true := by decide +kernel

/-- The small key is well formed, so the refusals below are for the changed field (46_rsa.md rule R300). -/
theorem witness_smallKey_wf : smallKey.WF where
  p_prime := by norm_num [smallKey]
  q_prime := by norm_num [smallKey]
  p_odd := rfl
  q_odd := rfl
  p_ne_q := by decide
  n_eq := rfl
  d_pos := by decide
  d_coprime := by norm_num [smallKey]
  dp_eq := rfl
  dq_eq := rfl
  qinv_lt := by decide
  qinv_eq := rfl
  k_low := by decide
  k_high := by decide
  k_pos := by decide
  k_le := by decide

theorem test_config_wf : small.WF :=
  ⟨by decide +kernel, by decide +kernel, witness_smallKey_wf, by decide +kernel, by decide +kernel⟩
theorem test_config_wf_fi_in_map : ¬ Config.WF { small with fiOpcodes := [0xE0, 0x72] } :=
  fun h => absurd (h.fi_disjoint 0x72 (by decide)) (by decide +kernel)
theorem test_config_wf_ext_in_map : ¬ Config.WF { small with extOpcodes := [0x10] } :=
  fun h => absurd (h.ext_disjoint 0x10 (by decide)) (by decide +kernel)
theorem test_config_wf_equal_codes : ¬ Config.WF { small with respFail := small.respOk } := fun h => h.ok_ne_fail rfl
theorem test_config_wf_empty_badcmd : ¬ Config.WF { small with respBadcmd := [] } := fun h => h.badcmd_nonempty rfl
theorem test_config_wf_bad_key : ¬ Config.WF { small with rsa := { smallKey with k := 1 } } :=
  fun h => absurd h.rsa_wf.k_high (by decide)
theorem test_key_wf_p_not_prime : ¬ RsaKey.WF { smallKey with p := 15 } :=
  fun h => absurd h.p_prime (by norm_num)
theorem test_key_wf_q_not_prime : ¬ RsaKey.WF { smallKey with q := 25 } :=
  fun h => absurd h.q_prime (by norm_num)
theorem test_key_wf_p_even : ¬ RsaKey.WF { smallKey with p := 2 } :=
  fun h => absurd h.p_odd (by decide)
theorem test_key_wf_q_even : ¬ RsaKey.WF { smallKey with q := 2 } :=
  fun h => absurd h.q_odd (by decide)
theorem test_key_wf_p_eq_q : ¬ RsaKey.WF { smallKey with p := 23 } :=
  fun h => absurd h.p_ne_q (by decide)
theorem test_key_wf_n_not_product : ¬ RsaKey.WF { smallKey with n := 390 } :=
  fun h => absurd h.n_eq (by decide)
theorem test_key_wf_d_zero : ¬ RsaKey.WF { smallKey with d := 0 } :=
  fun h => absurd h.d_pos (by decide)
theorem test_key_wf_d_not_coprime : ¬ RsaKey.WF { smallKey with d := 11 } :=
  fun h => absurd h.d_coprime (by decide)
theorem test_key_wf_dp_wrong : ¬ RsaKey.WF { smallKey with dp := 4 } :=
  fun h => absurd h.dp_eq (by decide)
theorem test_key_wf_dq_wrong : ¬ RsaKey.WF { smallKey with dq := 4 } :=
  fun h => absurd h.dq_eq (by decide)
theorem test_key_wf_qinv_large : ¬ RsaKey.WF { smallKey with qinv := 20 } :=
  fun h => absurd h.qinv_lt (by decide)
theorem test_key_wf_qinv_wrong : ¬ RsaKey.WF { smallKey with qinv := 4 } :=
  fun h => absurd h.qinv_eq (by decide)
theorem test_key_wf_k_large : ¬ RsaKey.WF { smallKey with k := 3 } :=
  fun h => absurd h.k_low (by decide)
theorem test_key_wf_k_small : ¬ RsaKey.WF { smallKey with k := 1 } :=
  fun h => absurd h.k_high (by decide)
theorem test_key_wf_k_zero : ¬ RsaKey.WF { smallKey with k := 0 } :=
  fun h => absurd h.k_pos (by decide)
theorem test_key_wf_k_over_buffer : ¬ RsaKey.WF { smallKey with k := 169 } :=
  fun h => absurd h.k_le (by decide)

/-! ### The field of AES, the spot values of vector V9 -/

theorem test_field_V9 :
    [0x00, 0x01, 0x57, 0x80, 0xff, 0xae].map xtime = [0x00, 0x02, 0xae, 0x1b, 0xe5, 0x47] ∧
    [(0x57, 0x83), (0x57, 0x13), (0x02, 0x87), (0x03, 0x6e), (0xff, 0xff), (0x00, 0x53), (0x01, 0xc5)].map
      (fun p => gmul p.1 p.2) = [0xc1, 0xfe, 0x15, 0xb2, 0x13, 0x00, 0xc5] ∧
    [0x00, 0x01, 0x02, 0x53, 0xca, 0xff].map ginv = [0x00, 0x01, 0x8d, 0xca, 0x53, 0x1c] := by decide +kernel

/-! ### Decoding: every row of the opcode table, its word written out from 30_encoding.md rules R90 and R100

Byte `j` of a frame is bits `8j+7..8j` of the word: the opcode is the lowest byte, and the payload `00 11 22 ...` follows
it upward. -/

theorem test_decode_aes128 :
    decodeTableWord 136 0xffeeddccbbaa9988776655443322110010 =
      some (.aes128Enc (block 16 0x00112233445566778899aabbccddeeff)) ∧
    decodeTableWord 136 0xffeeddccbbaa9988776655443322110011 =
      some (.aes128Dec (block 16 0x00112233445566778899aabbccddeeff)) ∧
    decodeTableWord 136 0xffeeddccbbaa9988776655443322110012 =
      some (.aes128Key (block 16 0x00112233445566778899aabbccddeeff)) ∧
    decodeTableWord 136 0xffeeddccbbaa9988776655443322110013 =
      some (.aes128EncTbl (block 16 0x00112233445566778899aabbccddeeff)) ∧
    decodeTableWord 136 0xffeeddccbbaa9988776655443322110014 =
      some (.aes128DecTbl (block 16 0x00112233445566778899aabbccddeeff)) ∧
    decodeTableWord 136 0xffeeddccbbaa9988776655443322110015 =
      some (.aes128EncHw (block 16 0x00112233445566778899aabbccddeeff)) ∧
    decodeTableWord 136 0xffeeddccbbaa9988776655443322110016 =
      some (.aes128DecHw (block 16 0x00112233445566778899aabbccddeeff)) ∧
    decodeTableWord 136 0xffeeddccbbaa9988776655443322110018 =
      some (.aes128EncMt (block 16 0x00112233445566778899aabbccddeeff)) ∧
    decodeTableWord 136 0xffeeddccbbaa9988776655443322110019 =
      some (.aes128EncMtp (block 16 0x00112233445566778899aabbccddeeff)) ∧
    decodeTableWord 136 0xffeeddccbbaa998877665544332211001a =
      some (.aes128EncMb (block 16 0x00112233445566778899aabbccddeeff)) ∧
    decodeTableWord 264 0x00efdecdbcab9a897867564534231201ffeeddccbbaa998877665544332211001b =
      some (.aes128EncMbx (block 32 0x00112233445566778899aabbccddeeff0112233445566778899aabbccddeef00)) ∧
    decodeTableWord 136 0xffeeddccbbaa998877665544332211001c =
      some (.aes128EncRd (block 16 0x00112233445566778899aabbccddeeff)) ∧
    decodeTableWord 136 0xffeeddccbbaa998877665544332211001d =
      some (.aes128EncRs (block 16 0x00112233445566778899aabbccddeeff)) ∧
    decodeTableWord 136 0xffeeddccbbaa998877665544332211001e =
      some (.aes128EncMa (block 16 0x00112233445566778899aabbccddeeff)) ∧
    decodeTableWord 136 0xffeeddccbbaa998877665544332211001f =
      some (.aes128EncDc (block 16 0x00112233445566778899aabbccddeeff)) := by
  decide +kernel
theorem test_decode_aes256 :
    decodeTableWord 136 0xffeeddccbbaa9988776655443322110020 =
      some (.aes256Enc (block 16 0x00112233445566778899aabbccddeeff)) ∧
    decodeTableWord 136 0xffeeddccbbaa9988776655443322110021 =
      some (.aes256Dec (block 16 0x00112233445566778899aabbccddeeff)) ∧
    decodeTableWord 264 0x00efdecdbcab9a897867564534231201ffeeddccbbaa9988776655443322110022 =
      some (.aes256Key (block 32 0x00112233445566778899aabbccddeeff0112233445566778899aabbccddeef00)) ∧
    decodeTableWord 136 0xffeeddccbbaa9988776655443322110025 =
      some (.aes256EncHw (block 16 0x00112233445566778899aabbccddeeff)) ∧
    decodeTableWord 136 0xffeeddccbbaa9988776655443322110026 =
      some (.aes256DecHw (block 16 0x00112233445566778899aabbccddeeff)) ∧
    decodeTableWord 136 0xffeeddccbbaa9988776655443322110028 =
      some (.aes256EncMt (block 16 0x00112233445566778899aabbccddeeff)) ∧
    decodeTableWord 136 0xffeeddccbbaa998877665544332211002a =
      some (.aes256EncMb (block 16 0x00112233445566778899aabbccddeeff)) := by
  decide +kernel
theorem test_decode_des :
    decodeTableWord 72 0x776655443322110030 =
      some (.desEnc (block 8 0x0011223344556677)) ∧
    decodeTableWord 72 0x776655443322110031 =
      some (.desDec (block 8 0x0011223344556677)) ∧
    decodeTableWord 72 0x776655443322110032 =
      some (.desKey (block 8 0x0011223344556677)) ∧
    decodeTableWord 72 0x77665544332211003c =
      some (.desEncRd (block 8 0x0011223344556677)) ∧
    decodeTableWord 72 0x77665544332211003d =
      some (.desEncRs (block 8 0x0011223344556677)) ∧
    decodeTableWord 72 0x77665544332211003e =
      some (.desEncMa (block 8 0x0011223344556677)) ∧
    decodeTableWord 72 0x77665544332211003f =
      some (.desEncDc (block 8 0x0011223344556677)) := by
  decide +kernel
theorem test_decode_tdes :
    decodeTableWord 72 0x776655443322110040 =
      some (.tdesEnc (block 8 0x0011223344556677)) ∧
    decodeTableWord 72 0x776655443322110041 =
      some (.tdesDec (block 8 0x0011223344556677)) ∧
    decodeTableWord 200 0x7867564534231201ffeeddccbbaa9988776655443322110042 =
      some (.tdesKey (block 24 0x00112233445566778899aabbccddeeff0112233445566778)) ∧
    decodeTableWord 72 0x776655443322110045 =
      some (.tdesEncHw (block 8 0x0011223344556677)) ∧
    decodeTableWord 72 0x776655443322110046 =
      some (.tdesDecHw (block 8 0x0011223344556677)) := by
  decide +kernel
theorem test_decode_sm4 :
    decodeTableWord 136 0xffeeddccbbaa9988776655443322110050 =
      some (.sm4Enc (block 16 0x00112233445566778899aabbccddeeff)) ∧
    decodeTableWord 136 0xffeeddccbbaa9988776655443322110051 =
      some (.sm4Dec (block 16 0x00112233445566778899aabbccddeeff)) ∧
    decodeTableWord 136 0xffeeddccbbaa9988776655443322110052 =
      some (.sm4Key (block 16 0x00112233445566778899aabbccddeeff)) ∧
    decodeTableWord 136 0xffeeddccbbaa998877665544332211005c =
      some (.sm4EncRd (block 16 0x00112233445566778899aabbccddeeff)) := by
  decide +kernel
theorem test_decode_rsa :
    decodeTableWord 40 0xbbaa020060 = some (.rsacrt 2 [0xaa, 0xbb]) ∧
    decodeTableWord 40 0xbbaa020061 = some (.rsasfm 2 [0xaa, 0xbb]) ∧
    decodeTableWord 40 0xbbaa02006c = some (.rsasfmRd 2 [0xaa, 0xbb]) ∧
    decodeTableWord 40 0xbbaa02006f = some (.rsacrtDc 2 [0xaa, 0xbb]) := by
  decide +kernel
theorem test_decode_session :
    decodeTableWord 40 0x3322110070 =
      some (.pwdChk1 (block 4 0x00112233)) ∧
    decodeTableWord 40 0x3322110071 =
      some (.pwdChk2 (block 4 0x00112233)) ∧
    decodeTableWord 40 0x3322110072 =
      some (.pwdSet (block 4 0x00112233)) := by
  decide +kernel
theorem test_decode_catalogue :
    decodeTableWord 8 0xe0 = some .fi0 ∧
    decodeTableWord 8 0xe1 = some .fi1 ∧
    decodeTableWord 8 0xe2 = some .fi2 ∧
    decodeTableWord 8 0xe3 = some .fi3 ∧
    decodeTableWord 8 0xe4 = some .fi4 ∧
    decodeTableWord 8 0xe5 = some .fi5 ∧
    decodeTableWord 8 0xe6 = some .fi6 ∧
    decodeTableWord 8 0xe7 = some .fi7 ∧
    decodeTableWord 8 0xe8 = some .fi8 ∧
    decodeTableWord 8 0xe9 = some .fi9 ∧
    decodeTableWord 8 0xea = some .fi10 ∧
    decodeTableWord 8 0xeb = some .fi11 ∧
    decodeTableWord 8 0xec = some .fi12 ∧
    decodeTableWord 8 0xed = some .fi13 ∧
    decodeTableWord 8 0xee = some .fi14 ∧
    decodeTableWord 8 0xef = some .fi15 := by
  decide +kernel
theorem test_decode_unknown :
    decodeTableWord 8 0x00 = some (.unknown 0x00) ∧
    decodeTableWord 8 0x17 = some (.unknown 0x17) ∧
    decodeTableWord 8 0xff = some (.unknown 0xff) := by
  decide +kernel

/-- A length field above 168 is clipped: the rest stays in the transport (rule R97); the length is big-endian. -/
theorem test_decode_clipped :
    decode (0x60 :: 0x00 :: 0xA9 :: List.replicate 169 0x55) = .ok (.rsacrt 0x00A9 (List.replicate 168 0x55)) [0x55] ∧
    decode (0x61 :: 0x00 :: 0xA8 :: List.replicate 169 0x55) = .ok (.rsasfm 0x00A8 (List.replicate 168 0x55)) [0x55] ∧
    decode (0x6C :: 0x00 :: 0xA7 :: List.replicate 167 0x55) = .ok (.rsasfmRd 0x00A7 (List.replicate 167 0x55)) [] ∧
    decode (0x6F :: 0x01 :: 0x00 :: List.replicate 168 0x55) = .ok (.rsacrtDc 0x0100 (List.replicate 168 0x55)) [] ∧
    decode (0x60 :: 0x00 :: 0x00 :: [0x10]) = .ok (.rsacrt 0 []) [0x10] := by decide +kernel

/-- An incomplete frame is no frame yet (93_implementation_defined.md U7). -/
theorem test_decode_incomplete : ∀ bs ∈ [[], [0x70#8, 1, 2, 3], [0x60#8], [0x60#8, 0], [0x60#8, 0, 1]],
    decode bs = .incomplete := by decide +kernel

/-! ### One step against the vectors of the spec

The name says the vector of spec/96_test_vectors_commands.md or spec/97_test_vectors_session_programs.md. -/

theorem test_aes128Enc_V14 :
    let frame := bytes 17 0x106bc1bee22e409f96e93d7e117393172a
    traceOf (step (sent bench frame)) =
      some (bracketed frame (bytes 16 0x3ad77bb40d7a3660a89ecaf32466ef97)) := by decide +kernel
theorem test_aes128Dec_V15 :
    let frame := bytes 17 0x113ad77bb40d7a3660a89ecaf32466ef97
    traceOf (step (sent bench frame)) =
      some (bracketed frame (bytes 16 0x6bc1bee22e409f96e93d7e117393172a)) := by decide +kernel
theorem test_aes128EncTbl_V19 :
    let frame := bytes 17 0x1300000000000000000000000000000000
    traceOf (step { sent bench frame
        with keyAes128 := bench.defKeyAes128 }) =
      some (bracketed frame (bytes 16 0x7df76b0c1ab899b33e42f047b91b546f)) := by decide +kernel
theorem test_aes128DecTbl_V24 :
    let frame := bytes 17 0x1469c4e0d86a7b0430d8cdb78070b4c55a
    traceOf (step { sent bench frame
        with keyAes128 := block 16 0x000102030405060708090a0b0c0d0e0f }) =
      some (bracketed frame (bytes 16 0x00112233445566778899aabbccddeeff)) := by decide +kernel
theorem test_aes128Key_V20 :
    let frame := bytes 17 0x12000102030405060708090a0b0c0d0e0f
    traceOf (step (sent bench frame)) =
      some (unbracketed frame (bytes 16 0x000102030405060708090a0b0c0d0e0f)) := by decide +kernel
theorem test_aes128EncHw_V26 :
    let frame := bytes 17 0x1500112233445566778899aabbccddeeff
    traceOf (step { sent bench frame [0] .quiet
        with keyAes128 := block 16 0x000102030405060708090a0b0c0d0e0f }) =
      some (unbracketed frame (bytes 16 0x00000000000000000000000000000000)) := by decide +kernel
theorem test_aes128EncHw_absent_V34 :
    let frame := bytes 17 0x1500112233445566778899aabbccddeeff
    traceOf (step (sent { bench with hwPresent := false } frame)) =
      some (unbracketed frame (bytes 16 0x00000000000000000000000000000000)) := by decide +kernel
theorem test_aes128EncMt_V35 :
    let frame := bytes 17 0x1800112233445566778899aabbccddeeff
    traceOf (step { sent bench frame [17, 34, 51, 68, 85, 102] .quiet
        with keyAes128 := block 16 0x000102030405060708090a0b0c0d0e0f }) =
      some (bracketed frame (bytes 16 0x69c4e0d86a7b0430d8cdb78070b4c55a)) := by decide +kernel
theorem test_aes128EncMbx_V39 :
    let frame := bytes 33 0x1b00112233445566778899aabbccddeefff0e1d2c3b4a5968778695a4b3c2d1e0f
    traceOf (step { sent bench frame
        with keyAes128 := block 16 0x000102030405060708090a0b0c0d0e0f }) =
      some (bracketed frame (bytes 16 0x69c4e0d86a7b0430d8cdb78070b4c55a)) := by decide +kernel
theorem test_aes128EncRs_V45 :
    let frame := bytes 17 0x1d00112233445566778899aabbccddeeff
    traceOf (step { sent bench frame [6136322389212, 11817492093282, 1000, 1977, 2954, 3931, 4908, 5885, 6862, 7839] .quiet
        with keyAes128 := block 16 0x000102030405060708090a0b0c0d0e0f }) =
      some (bracketed frame (bytes 16 0x69c4e0d86a7b0430d8cdb78070b4c55a)) := by decide +kernel
theorem test_aes128EncDc_V50 :
    let frame := bytes 17 0x1f00112233445566778899aabbccddeeff
    traceOf (step { sent bench frame [] ⟨[1, 0, 0, 0, 0, 0, 0, 0, 0, 0, 0, 0, 0, 0,
          0, 0],
          [156, 37, 182, 161, 202, 239, 134, 107, 46, 198, 209, 43, 14, 60,
          150, 226], false, false⟩
        with keyAes128 := block 16 0x000102030405060708090a0b0c0d0e0f }) =
      some (bracketed frame (bytes 16 0x68c4e0d86a7b0430d8cdb78070b4c55a)) := by decide +kernel
theorem test_aes256Enc_V16 :
    let frame := bytes 17 0x206bc1bee22e409f96e93d7e117393172a
    traceOf (step (sent bench frame)) =
      some (bracketed frame (bytes 16 0xf3eed1bdb5d2a03c064b5a7e3db181f8)) := by decide +kernel
theorem test_aes256Key_V28 :
    let frame := bytes 33 0x22000102030405060708090a0b0c0d0e0f101112131415161718191a1b1c1d1e1f
    traceOf (step (sent bench frame)) =
      some (unbracketed frame (bytes 32 0x000102030405060708090a0b0c0d0e0f101112131415161718191a1b1c1d1e1f)) := by decide +kernel
theorem test_aes256DecHw_V33 :
    let frame := bytes 17 0x268ea2b7ca516745bfeafc49904b496089
    traceOf (step (sent bench frame [0] .quiet)) =
      some (unbracketed frame (bytes 16 0x00000000000000000000000000000000)) := by decide +kernel
theorem test_desEnc_V52 :
    let frame := bytes 9 0x304e6f772069732074
    traceOf (step (sent bench frame)) =
      some (bracketed frame (bytes 8 0x3fa40e8a984d4815)) := by decide +kernel
theorem test_desDec_V53 :
    let frame := bytes 9 0x313fa40e8a984d4815
    traceOf (step (sent bench frame)) =
      some (bracketed frame (bytes 8 0x4e6f772069732074)) := by decide +kernel
theorem test_desKey_V54 :
    let frame := bytes 9 0x32133457799bbcdff1
    traceOf (step (sent bench frame)) =
      some (unbracketed frame (bytes 8 0x133457799bbcdff1)) := by decide +kernel
theorem test_desEncRd_V57 :
    let frame := bytes 9 0x3c0123456789abcdef
    traceOf (step { sent bench frame (List.replicate 16 3) .quiet
        with keyDes := block 8 0x133457799bbcdff1 }) =
      some (bracketed frame (bytes 8 0x85e813540f0ab405)) := by decide +kernel
theorem test_desEncRs_V58 :
    let frame := bytes 9 0x3d0123456789abcdef
    traceOf (step { sent bench frame (List.replicate 16 40319) .quiet
        with keyDes := block 8 0x133457799bbcdff1 }) =
      some (bracketed frame (bytes 8 0x85e813540f0ab405)) := by decide +kernel
theorem test_desEncMa_V59 :
    let frame := bytes 9 0x3e0123456789abcdef
    traceOf (step { sent bench frame
        with keyDes := block 8 0x133457799bbcdff1 }) =
      some (bracketed frame (bytes 8 0x85e813540f0ab405)) := by decide +kernel
theorem test_desEncDc_V61 :
    let frame := bytes 9 0x3f0123456789abcdef
    traceOf (step { sent bench frame [] ⟨[128, 0, 0, 0, 0, 0, 0, 0],
          [], false, false⟩
        with keyDes := block 8 0x133457799bbcdff1 }) =
      some (bracketed frame []) := by decide +kernel
theorem test_desEncDc_V63 :
    let frame := bytes 9 0x3f0123456789abcdef
    traceOf (step { sent bench frame [] ⟨[128, 0, 0, 0, 0, 0, 0, 0],
          [108, 186, 220, 59, 129, 3, 32, 126], false, false⟩
        with keyDes := block 8 0x133457799bbcdff1 }) =
      some (bracketed frame (bytes 8 0x05e813540f0ab405)) := by decide +kernel
theorem test_tdesEnc_V64 :
    let frame := bytes 9 0x405468652071756663
    traceOf (step (sent bench frame)) =
      some (bracketed frame (bytes 8 0xa826fd8ce53b855f)) := by decide +kernel
theorem test_tdesDec_V65 :
    let frame := bytes 9 0x41a826fd8ce53b855f
    traceOf (step (sent bench frame)) =
      some (bracketed frame (bytes 8 0x5468652071756663)) := by decide +kernel
theorem test_tdesKey_V66 :
    let frame := bytes 25 0x42133457799bbcdff1133457799bbcdff1133457799bbcdff1
    traceOf (step (sent bench frame)) =
      some (unbracketed frame (bytes 24 0x133457799bbcdff1133457799bbcdff1133457799bbcdff1)) := by decide +kernel
theorem test_tdesEncHw_V68 :
    let frame := bytes 9 0x450123456789abcdef
    traceOf (step { sent bench frame [1] .quiet
        with keyTdes := block 24 0x133457799bbcdff1133457799bbcdff1133457799bbcdff1 }) =
      some (bracketed frame (bytes 8 0x85e813540f0ab405)) := by decide +kernel
theorem test_tdesEncHw_V69 :
    let frame := bytes 9 0x450123456789abcdef
    traceOf (step { sent bench frame [0] .quiet
        with keyTdes := block 24 0x133457799bbcdff1133457799bbcdff1133457799bbcdff1 }) =
      some (unbracketed frame (bytes 8 0x0000000000000000)) := by decide +kernel
theorem test_tdesDecHw_V70 :
    let frame := bytes 9 0x4685e813540f0ab405
    traceOf (step { sent bench frame [1] .quiet
        with keyTdes := block 24 0x133457799bbcdff1133457799bbcdff1133457799bbcdff1 }) =
      some (bracketed frame (bytes 8 0x0123456789abcdef)) := by decide +kernel
theorem test_sm4Enc_V72 :
    let frame := bytes 17 0x500123456789abcdeffedcba9876543210
    traceOf (step (sent bench frame)) =
      some (bracketed frame (bytes 16 0x681edf34d206965e86b3e94f536e4246)) := by decide +kernel
theorem test_sm4Dec_V73 :
    let frame := bytes 17 0x51681edf34d206965e86b3e94f536e4246
    traceOf (step (sent bench frame)) =
      some (bracketed frame (bytes 16 0x0123456789abcdeffedcba9876543210)) := by decide +kernel
theorem test_sm4Key_V74 :
    let frame := bytes 17 0x52000102030405060708090a0b0c0d0e0f
    traceOf (step (sent bench frame)) =
      some (unbracketed frame (bytes 16 0x000102030405060708090a0b0c0d0e0f)) := by decide +kernel
theorem test_sm4EncRd_V76 :
    let frame := bytes 17 0x5c00112233445566778899aabbccddeeff
    traceOf (step { sent bench frame (List.replicate 32 7) .quiet
        with keySm4 := block 16 0x000102030405060708090a0b0c0d0e0f }) =
      some (bracketed frame (bytes 16 0x74c046048161bbf3d4ceff33d3f429be)) := by decide +kernel
theorem test_rsacrt_V78 :
    let frame := bytes 19 0x60001000000000000000000000000000000002
    traceOf (step (sent bench frame)) =
      some (bracketed frame (bytes 16 0x5fe1fc685da6b5daa2ecf6f88e96b305)) := by decide +kernel
theorem test_rsacrt_V82 :
    let frame := bytes 19 0x600010ffffffffffffff720000000000001320
    traceOf (step (sent bench frame)) =
      some (bracketed frame (bytes 16 0xffffffffffffff720000000000001320)) := by decide +kernel
theorem test_rsasfm_V79 :
    let frame := bytes 19 0x61001000112233445566778899aabbccddeeff
    traceOf (step (sent bench frame)) =
      some (bracketed frame (bytes 16 0x0d6808157802b45de17349cec5df9cc6)) := by decide +kernel
theorem test_rsasfmRd_V80 :
    let frame := bytes 19 0x6c001000112233445566778899aabbccddeeff
    traceOf (step (sent bench frame (List.replicate 128 2) .quiet)) =
      some (bracketed frame (bytes 16 0x0d6808157802b45de17349cec5df9cc6)) := by decide +kernel
theorem test_rsacrtDc_V86 :
    let frame := bytes 19 0x6f001000000000000000000000000000000002
    traceOf (step (sent bench frame)) =
      some (bracketed frame (bytes 16 0x5fe1fc685da6b5daa2ecf6f88e96b305)) := by decide +kernel
theorem test_rsacrtDc_V87 :
    let frame := bytes 19 0x6f001000000000000000000000000000000002
    traceOf (step (sent bench frame [] ⟨[0, 0, 0, 0, 0, 0, 0, 0, 0, 0, 0, 0, 0, 0,
          0, 1],
          [], false, false⟩)) =
      some (bracketed frame []) := by decide +kernel
theorem test_pwdChk1_V91 :
    let frame := bytes 5 0x7031323335
    traceOf (step (sent bench frame)) =
      some (bracketed frame (bytes 2 0x4e4f)) := by decide +kernel
theorem test_pwdChk1_V93 :
    let frame := bytes 5 0x7000000000
    traceOf (step (sent bench frame [] ⟨[],
          [], true, false⟩)) =
      some (bracketed frame (bytes 2 0x4f4b)) := by decide +kernel
theorem test_pwdChk2_V97 :
    let frame := bytes 5 0x7100000000
    traceOf (step (sent bench frame [] ⟨[],
          [], true, false⟩)) =
      some (bracketed frame (bytes 2 0x4e4f)) := by decide +kernel
theorem test_pwdChk2_V100 :
    let frame := bytes 5 0x7100000000
    traceOf (step (sent bench frame [] ⟨[],
          [], true, true⟩)) =
      some (bracketed frame (bytes 2 0x4f4b)) := by decide +kernel
theorem test_pwdSet_V108 :
    let frame := bytes 5 0x72deadbeef
    traceOf (step (sent bench frame)) =
      some (unbracketed frame (bytes 4 0xdeadbeef)) := by decide +kernel
theorem test_unknown_V102 :
    let frame := bytes 1 0x00
    traceOf (step (sent bench frame)) =
      some (unbracketed frame (bytes 7 0x426164436d640a)) := by decide +kernel
theorem test_unknown_V103 : traceOf (step { sent bench [0xff] with auth := true }) =
    some (unbracketed [0xff] (bytes 8 0x5345435245542121)) := by decide +kernel
theorem test_unknown_V106 : traceOf (step { sent bench [0x00] with auth := true, glitched := true }) =
    some (unbracketed [0x00] (bytes 8 0x4f4b4f4b4f4b4f4b)) := by decide +kernel

/-- The registers that the session and key commands leave (vectors V20, V90, V91, V108). -/
theorem test_registers_written :
    (match step (sent bench (bytes 17 0x12000102030405060708090a0b0c0d0e0f)) with
      | .next s => decide (s.keyAes128 = block 16 0x000102030405060708090a0b0c0d0e0f ∧ s.cpos = 17) | _ => false) = true ∧
    (match step (sent bench (bytes 5 0x7031323334)) with | .next s => s.auth | _ => false) = true ∧
    (match step { sent bench (bytes 5 0x7031323335) with auth := true } with | .next s => !s.auth | _ => false) = true ∧
    (match step { sent bench (bytes 5 0x72deadbeef) with auth := true } with
      | .next s => decide (s.pwd = block 4 0xdeadbeef ∧ s.auth = false) | _ => false) = true := by decide +kernel

/-- The output region of a block command, and `PLEN` and the operand's place of an RSA command (20_memory.md rule R61). -/
theorem test_scratch_left :
    (match step (sent bench (bytes 9 0x304e6f772069732074)) with
      | .next s => decide (loadBytes s.scr 84 8 = block 8 0x3fa40e8a984d4815 ∧
          loadBytes s.scr 0 8 = block 8 0x4e6f772069732074 ∧ memByte s.scr 8 = 0 ∧ memByte s.scr 92 = 0) | _ => false) = true ∧
    (match step (sent small (bytes 5 0x6000020186)) with
      | .next s => decide (s.plen = 2 ∧ loadBytes s.scr 0 2 = block 2 0x0186 ∧ s.cpos = 5) | _ => false) = true := by
  decide +kernel

/-- Operands outside the domain: `c = n`, one byte short, one byte long, none (vectors V83, V84, V85; rule R98). -/
theorem test_rsa_refused : ∀ frame ∈ [bytes 19 0x600010ffffffffffffff720000000000001321,
    bytes 18 0x60000f000000000000000000000000000002, bytes 20 0x6000110000000000000000000000000000000002, bytes 3 0x600000],
    (match step (sent bench frame) with | .refused .rsaOperandOutsideDomain => true | _ => false) = true := by decide +kernel

/-- The two outcomes of a catalogue opcode, by the draw (93_implementation_defined.md U5). -/
theorem test_fi3_survives : traceOf (step (sent bench [0xE3] [1])) = some [.rx 0xE3, .trigRise, .tx 0xE3, .trigFall] := by decide +kernel
theorem test_fi15_crashes :
    traceOf (step (sent bench [0xEF] [0])) = some [.rx 0xEF, .trigRise, .faultMark] ∧
    (match step (sent bench [0xEF] [0]) with
      | .next s => s.trig && s.faultpin && decide (s.seq = .halted) | _ => false) = true := by decide +kernel

/-- The boot-time loop check (70_reset_and_hazards.md rule R384, vector V105). -/
theorem test_boot_glitched :
    (match step (powerCycle true 999 [] (sent bench [])) with | .next s => s.glitched && s.xsel | _ => false) = true ∧
    (match step (powerCycle false 1000 [] (sent bench [])) with | .next s => !s.glitched && !s.xsel | _ => false) = true := by
  decide +kernel

/-- A power cycle: nothing of `SCR`, `PLEN`, the keys or the flags survives (10_state.md rule R44). -/
theorem test_power_cycle_clears :
    (match step (powerCycle false 1000 []
        { sent bench [] with scr := [⟨0, 9⟩], plen := 5, auth := true, keyDes := block 8 1, pwd := block 4 1 }) with
      | .next s => decide (memByte s.scr 0 = 0 ∧ s.plen = 0 ∧ s.auth = false ∧ s.keyDes = bench.defKeyDes ∧
          s.pwd = bench.defPwd) | _ => false) = true := by decide +kernel

/-- The sets `FI_OPCODES` and `EXT_OPCODES` are the configuration's: an opcode is looked up in the map, then in the one,
then in the other, and is unknown in none (30_encoding.md rules R92, R107 and R108). -/
theorem test_opcode_sets :
    traceOf (step (sent otherSets [0x17] [1])) = some [.rx 0x17, .trigRise, .tx 0x17, .trigFall] ∧
    traceOf (step (sent otherSets [0xE1] [1])) = some [.rx 0xE1, .trigRise, .tx 0xE1, .trigFall] ∧
    traceOf (step (sent otherSets [0xE0])) = some (unbracketed [0xE0] (bytes 7 0x426164436d640a)) ∧
    (match step (sent otherSets [0x9A]) with | .refused (.externalOpcode 0x9A) => true | _ => false) = true ∧
    traceOf (step (sent bench [0x9A])) = some (unbracketed [0x9A] (bytes 7 0x426164436d640a)) := by decide +kernel

/-! ### Witnesses: hypotheses that can be met -/

/-- One well-formed instance of every command, the RSA ones with operands of the small key's domain, in four parts. -/
def everyCommand0 : List Instr :=
  [.aes128Enc (block 16 0x5a), .aes128Dec (block 16 0x5a), .aes128Key (block 16 0x5a), .aes128EncTbl (block 16 0x5a),
    .aes128DecTbl (block 16 0x5a), .aes128EncHw (block 16 0x5a), .aes128DecHw (block 16 0x5a), .aes128EncMt (block 16 0x5a),
    .aes128EncMtp (block 16 0x5a), .aes128EncMb (block 16 0x5a), .aes128EncMbx (block 32 0x5a), .aes128EncRd (block 16 0x5a),
    .aes128EncRs (block 16 0x5a), .aes128EncMa (block 16 0x5a), .aes128EncDc (block 16 0x5a), .aes256Enc (block 16 0x5a)]
def everyCommand1 : List Instr :=
  [.aes256Dec (block 16 0x5a), .aes256Key (block 32 0x5a), .aes256EncHw (block 16 0x5a), .aes256DecHw (block 16 0x5a),
    .aes256EncMt (block 16 0x5a), .aes256EncMb (block 16 0x5a), .desEnc (block 8 0x5a), .desDec (block 8 0x5a),
    .desKey (block 8 0x5a), .desEncRd (block 8 0x5a), .desEncRs (block 8 0x5a), .desEncMa (block 8 0x5a),
    .desEncDc (block 8 0x5a), .tdesEnc (block 8 0x5a), .tdesDec (block 8 0x5a), .tdesKey (block 24 0x5a)]
def everyCommand2 : List Instr :=
  [.tdesEncHw (block 8 0x5a), .tdesDecHw (block 8 0x5a), .sm4Enc (block 16 0x5a), .sm4Dec (block 16 0x5a),
    .sm4Key (block 16 0x5a), .sm4EncRd (block 16 0x5a), .rsacrt 2 [0x01, 0x86], .rsasfm 2 [0x01, 0x86],
    .rsasfmRd 2 [0x01, 0x86], .rsacrtDc 2 [0x01, 0x86], .pwdChk1 (block 4 0x5a), .pwdChk2 (block 4 0x5a),
    .pwdSet (block 4 0x5a), .fi0, .fi1, .fi2]
def everyCommand3 : List Instr :=
  [.fi3, .fi4, .fi5, .fi6,
    .fi7, .fi8, .fi9, .fi10,
    .fi11, .fi12, .fi13, .fi14,
    .fi15, .unknown 0x00, .unknown 0xff]

def everyCommand : List Instr := everyCommand0 ++ everyCommand1 ++ everyCommand2 ++ everyCommand3

/-- KeysWrittenByTheirCommands, ControlStateFrame, AuthTransitions, ScratchFrame, PayloadInScratch, NoStaleScratch,
DrawsDoNotShow, FlagsGateNothingElse: every command is well formed and goes on. -/
theorem witness_every_command_goes_on :
    ∀ i ∈ everyCommand, i.wf = true ∧ goesOn (exec i (sent small [] [1])) = true := by decide +kernel

/-- The same with the other verdict: the catalogue crashes, the accelerator fails; the state is next all the same. -/
theorem witness_every_command_goes_on_other_draw :
    ∀ i ∈ everyCommand, i.wf = true ∧ goesOn (exec i (sent small [] [0])) = true := by decide +kernel

theorem witness_KeysWrittenByTheirCommands : ∃ t, exec (.desKey (block 8 1)) State.reset = .next t := of_goesOn rfl
theorem witness_ControlStateFrame_plen :
    ∃ t, exec (.rsacrtDc 2 [0, 0]) (sent small []) = .next t := of_goesOn (by decide +kernel)
theorem witness_ControlStateFrame_catalogue : runsScenario bench (.desKey (block 8 1)) = false ∧
    runsScenario bench .fi0 = true ∧ runsScenario otherSets .fi0 = false := by decide +kernel
theorem witness_FlagsGateNothingElse :
    (∀ i ∈ [Instr.fi0, .desKey (block 8 1)], i.wf = true ∧ isPasswordCommand i = false ∧ isUnknown bench i = false) ∧
    isUnknown bench (.unknown 0) = true ∧ isUnknown otherSets .fi0 = true := by decide +kernel
/-- NoStaleScratch: the ends of the payload and output regions, of a command with a stale byte on either side. -/
theorem witness_NoStaleScratch :
    (match exec (.aes128EncDc (block 16 0x5a)) { sent bench [] [] ⟨[1], [], false, false⟩ with
        scr := [⟨16, 7⟩, ⟨83, 7⟩, ⟨84, 7⟩, ⟨99, 7⟩, ⟨100, 7⟩, ⟨167, 7⟩] } with
      | .next t => decide (memByte t.scr 15 = 0x5a ∧ memByte t.scr 16 = 7 ∧ memByte t.scr 83 = 7 ∧ memByte t.scr 100 = 7 ∧
          memByte t.scr 167 = 7 ∧ Vector.toList (loadBytes t.scr 84 16) =
            (xorBytes (aesEncrypt 4 bench.defKeyAes128 (block 16 0x5a)) (block 16 (1 <<< 120))).toList) | _ => false) = true := by
  decide +kernel
theorem witness_DrawsDoNotShow :
    isHardwareBacked (.aes128EncMt (block 16 1)) = false ∧ runsScenario bench (.aes128EncMt (block 16 1)) = false ∧
    goesOn (exec (.aes128EncMt (block 16 1)) (sent bench [])) = true := by decide +kernel
theorem witness_ScratchFrame_offsets : (83 < Config.outOff ∧ Config.inOff + 16 ≤ 83) ∧ Config.outOff + 16 ≤ 100 := by decide
theorem witness_PayloadInScratch :
    isRsa (.aes128EncMbx (block 32 1)) = false ∧ 0 < payloadLen (.aes128EncMbx (block 32 1)) ∧
    31 < payloadLen (.aes128EncMbx (block 32 1)) ∧ goesOn (exec (.aes128EncMbx (block 32 1)) (sent bench [])) = true := by
  decide +kernel

theorem witness_DecodeEncode : (Instr.rsacrt 0 []).wf = true ∧ (Instr.rsacrt 0xFFFF (List.replicate 168 7)).wf = true ∧
    (Instr.unknown 0xFF).wf = true := by decide +kernel
theorem witness_EncodeDecode : decode [0xE0, 0x10] = .ok .fi0 [0x10] := by decide +kernel
theorem witness_OpcodeMapInjective :
    (Instr.desKey (block 8 0)).wf = true ∧ (Instr.desKey (block 8 1)).wf = true ∧
    opcodeOf (.desKey (block 8 0)) = opcodeOf (.desKey (block 8 1)) := by decide +kernel
/-- The second clause: a well-formed configuration (`test_config_wf`), and the first and the last opcode of the map. -/
theorem witness_OpcodeMapInjective_sets : small.WF ∧ isBareOpcode (.aes128Enc (block 16 0)) = false ∧
    isBareOpcode (.pwdSet (block 4 0)) = false := ⟨test_config_wf, rfl, rfl⟩
/-- The opcodes of the 45 commands are the first 45 rows of the table, and with the 195 unknown ones and the default
catalogue they are all. -/
theorem test_commandOpcodes : commandOpcodes.length = 45 ∧ ∀ op : Byte,
    (op ∈ commandOpcodes ∧ isUnknownOpcode op = false ∧ op ∉ defaultFiOpcodes) ∨
    (op ∉ commandOpcodes ∧ isUnknownOpcode op = true ∧ op ∉ defaultFiOpcodes) ∨
    (op ∉ commandOpcodes ∧ isUnknownOpcode op = false ∧ op ∈ defaultFiOpcodes) := by decide +kernel
theorem witness_LaterBytesDoNotChangeAFrame : decode [0x60, 0, 1, 9, 0x10] = .ok (.rsacrt 1 [9]) [0x10] := by
  decide +kernel
theorem witness_StepRunsDecoded :
    (sent bench [0x17, 0x10]).seq = .awaitOpcode ∧ decode (sent bench [0x17, 0x10]).rx = .ok (.unknown 0x17) [0x10] := by
  decide +kernel
theorem witness_WaitsForTheWholeFrame : State.reset.seq = .awaitOpcode ∧ decode State.reset.rx = .incomplete := ⟨rfl, rfl⟩
theorem witness_HaltedUntilPowerCycle : ({ State.reset with seq := .halted } : State).seq = .halted := rfl
theorem witness_ResetSequence :
    (powerCycle true 5 [] State.reset).seq = .boot ∧ (powerCycle true 999 [] (sent bench [])).bootCounter ≠
      (powerCycle true 999 [] (sent bench [])).cfg.bootLoopExpect := by
  refine ⟨rfl, by decide⟩

/-- States of the invariants with a next step: a command, a crash, the boot sequence. -/
theorem witness_Inv_awaiting (rx : List Byte) (draws : List Nat) : Inv (sent bench rx draws) :=
  ⟨wf_nil, by simp [sent, State.resetWith], fun _ => rfl, fun _ => rfl, fun _ => rfl,
    fun h => by simp [sent, State.resetWith] at h⟩
theorem witness_WindowInv_awaiting (rx : List Byte) (draws : List Nat) : WindowInv (sent bench rx draws) :=
  ⟨fun _ => rfl, fun h => by simp [sent, State.resetWith] at h, fun _ => rfl⟩
theorem witness_Inv_boot : Inv (powerCycle true 1000 [] (sent bench [])) :=
  ⟨wf_nil, by simp [sent, powerCycle, State.resetWith], fun h => by simp [powerCycle] at h,
    fun h => by simp [powerCycle] at h, fun h => by simp [powerCycle] at h, fun h => by simp [powerCycle] at h⟩
theorem witness_WindowInv_boot : WindowInv (powerCycle true 1000 [] (sent bench [])) :=
  ⟨fun h => absurd rfl h, fun _ => rfl, fun h => by simp [powerCycle] at h⟩
theorem witness_Inv_halted : Inv { sent bench [] with seq := .halted, faultpin := true } :=
  ⟨wf_nil, by simp [sent, State.resetWith], fun h => by simp at h, fun h => by simp at h, fun h => by simp at h, fun _ => rfl⟩
theorem witness_StepKeepsInv_StepKeepsWindow :
    goesOn (step (sent bench [0x17])) = true ∧ goesOn (step (sent bench [0xE0] [0])) = true ∧
    goesOn (step (powerCycle true 1000 [] (sent bench []))) = true := by decide +kernel
/-- The second clause: a bracketing command whose last payload byte is an opcode of the catalogue; and the discipline
tells a byte sent inside a window from one sent after it. -/
theorem witness_StepKeepsWindow_strict :
    decode (sent bench (bytes 9 0x3000000000000000e3)).rx = .ok (.desEnc (block 8 0xe3)) [] ∧
    runsScenario bench (.desEnc (block 8 0xe3)) = false ∧ goesOn (step (sent bench (bytes 9 0x3000000000000000e3))) = true ∧
    windowLevel [] false [.trigRise, .tx 0xE3, .trigFall] = none ∧
    windowLevel defaultFiOpcodes false [.trigRise, .tx 0xE3, .trigFall] = some false ∧
    windowLevel defaultFiOpcodes false [.trigRise, .tx 0x10, .trigFall] = none ∧
    windowLevel [] false [.rx 0x30, .trigRise, .trigFall, .tx 0xE3] = some false := by decide +kernel
theorem witness_OnlyStuckWaitingOrHalted :
    step (sent bench [0x10]) = .fault .awaitingBytes ∧
    step { sent bench [] with seq := .halted, faultpin := true } = .fault .haltedForEver := ⟨rfl, rfl⟩
theorem witness_OnlyRsaOperandsAndExternalOpcodesAreRefused_external : (sent otherSets [0x9A]).seq = .awaitOpcode ∧
    (sent otherSets [0x9A]).rx = 0x9A :: [] ∧ 0x9A#8 ∉ commandOpcodes ∧ 0x9A#8 ∉ otherSets.fiOpcodes ∧
    0x9A#8 ∈ otherSets.extOpcodes := by decide +kernel
theorem witness_OnlyRsaOperandsAndExternalOpcodesAreRefused_rsa : ∀ frame ∈ [bytes 3 0x600000, bytes 5 0x6f00020187, bytes 4 0x61000105],
    (match step (sent small frame) with | .refused _ => true | _ => false) = true := by decide +kernel
theorem witness_HaltsOnlyInTheCatalogue :
    (match step (sent bench [0xE7] [0]) with | .next t => decide (t.seq = .halted) | _ => false) = true := by decide +kernel
theorem witness_IterationTakesItsFrame :
    decode (bytes 6 0x600002018610) = .ok (.rsacrt 2 [1, 0x86]) [0x10] ∧
    goesOn (step (sent small (bytes 6 0x600002018610))) = true := by decide +kernel
theorem witness_AuthTransitions :
    goesOn (exec (.pwdChk1 (block 4 0x31323334)) (sent bench [])) = true ∧
    goesOn (exec (.pwdChk2 (block 4 0)) (sent bench [])) = true ∧ goesOn (exec (.pwdSet (block 4 0)) (sent bench [])) = true := by
  decide +kernel

theorem witness_LookupOrderDoesNotMatter : ((List.finRange 16).reverse).Perm (List.finRange 16) ∧
    ((List.finRange 8).reverse).Perm (List.finRange 8) := ⟨List.reverse_perm _, List.reverse_perm _⟩
theorem witness_TdesRoundTrip : ∀ i : Fin 8, bench.defKeyTdes[i.val]'(by omega) = bench.defKeyTdes[i.val]'(by omega) ∧
    (block 24 0x133457799bbcdff1133457799bbcdff10123456789abcdef)[i.val]'(by omega) =
      (block 24 0x133457799bbcdff1133457799bbcdff10123456789abcdef)[8 + i.val]'(by omega) := by decide +kernel
theorem witness_DesParityIgnored : block 8 0x133457799bbcdff1 ≠ block 8 0x123556789abddef0 ∧
    ∀ i : Fin 8, (block 8 0x133457799bbcdff1)[i] >>> 1 = (block 8 0x123556789abddef0)[i] >>> 1 := by decide +kernel
theorem witness_RsaMethodsAgree : smallKey.WF ∧ 390 < smallKey.n ∧ 0 < smallKey.n :=
  ⟨witness_smallKey_wf, by decide, by decide⟩

theorem witness_TriggerOperations : State.reset.trig = false ∧ ({ State.reset with trig := true } : State).trig = true :=
  ⟨rfl, rfl⟩
/-- The trigger line is low after reset: the hypothesis of every result statement. -/
theorem witness_results : State.reset.trig = false := rfl
theorem witness_Aes256Results_RoundTripOnTheWire :
    State.reset.trig = false ∧ State.reset.rk256 = packSchedule (aesKeyExpansion 8 State.reset.keyAes256) := ⟨rfl, rfl⟩
theorem witness_HardwareAnswers : (sent bench [] [1]).trig = false ∧ (sent bench [] [1]).cfg.hwPresent = true ∧
    drawBool (sent bench [] [1]) 0 = true := by decide +kernel
theorem witness_HardwareUnavailable : (sent { bench with hwPresent := false } [] [1]).cfg.hwPresent = false ∧
    drawBool (sent bench [] [0]) 0 = false := by decide +kernel
theorem witness_DoubleComputationContract_quiet :
    fault1 16 (sent bench []) = zeroBytes 16 ∧ fault2 16 (sent bench []) = zeroBytes 16 ∧
    fault1 8 (sent bench []) = zeroBytes 8 ∧ fault2 8 (sent bench []) = zeroBytes 8 := by decide +kernel
theorem witness_DoubleComputationContract_first_faulted :
    let s := sent bench [] [] ⟨[0x80], [], false, false⟩
    (fault1 16 s ≠ zeroBytes 16 ↔ fault2 16 s = zeroBytes 16) ∧ (fault1 8 s ≠ zeroBytes 8 ↔ fault2 8 s = zeroBytes 8) := by
  decide +kernel
theorem witness_DoubleComputationContract_second_faulted :
    let s := sent bench [] [] ⟨[], [0, 0, 0, 0, 0, 0, 0, 1], false, false⟩
    (fault1 16 s ≠ zeroBytes 16 ↔ fault2 16 s = zeroBytes 16) ∧ (fault1 8 s ≠ zeroBytes 8 ↔ fault2 8 s = zeroBytes 8) := by
  decide +kernel

/-- RsaResults and RsaDoubleComputation: the operands at both ends of the domain. -/
theorem witness_RsaResults : (sent small []).trig = false ∧ (sent small []).cfg.rsa.WF ∧
    ∀ p ∈ [[0x00#8, 0x00#8], [0x01#8, 0x86#8]], p.length = min (2#16).toNat 168 ∧ p.length = (sent small []).cfg.rsa.k ∧
      beValue p < (sent small []).cfg.rsa.n :=
  ⟨rfl, witness_smallKey_wf, by decide +kernel⟩
/-- RsaOutsideDomainRefused: no byte, one short, one long, clipped, and `c = n`. -/
theorem witness_RsaOutsideDomainRefused :
    ∀ f ∈ [(0#16, []), (1#16, [0#8]), (3#16, [0#8, 0#8, 0#8]), (169#16, List.replicate 168 0#8), (2#16, [0x01#8, 0x87#8])],
      f.2.length = min f.1.toNat 168 ∧ (f.2.length ≠ smallKey.k ∨ smallKey.n ≤ beValue f.2 ∨ f.2 = []) := by decide +kernel
theorem witness_SingleFaultDoesNotAuthenticate :
    ∀ e ∈ [(true, false), (false, true), (false, false)], (block 4 0 ≠ (sent bench []).pwd) ∧
      ¬ ((envInput (sent bench [] [] ⟨[], [], e.1, e.2⟩)).faultChk1 = true ∧
        (envInput (sent bench [] [] ⟨[], [], e.1, e.2⟩)).faultChk2 = true) := by decide +kernel
theorem witness_UnknownOpcodePolicy : (∀ op ∈ [0x00#8, 0xFF#8], (Instr.unknown op).wf = true ∧
      isUnknown bench (.unknown op) = true) ∧ isUnknown otherSets .fi0 = true ∧
    (∀ op ∈ [0x00#8, 0xFF#8], op ∉ commandOpcodes ∧ op ∉ bench.fiOpcodes ∧ op ∉ bench.extOpcodes) ∧
    (sent bench [0xFF, 0x10]).seq = .awaitOpcode ∧ (sent bench [0xFF, 0x10]).rx = 0xFF :: [0x10] := by decide +kernel
theorem witness_CatalogueOutcomes : (sent bench [] [1]).trig = false ∧ drawBool (sent bench [] [1]) 0 = true ∧
    drawBool (sent bench [] [0]) 0 = false ∧ runsScenario bench .fi0 = true ∧ runsScenario bench .fi15 = true ∧
    runsScenario otherSets (.unknown 0x17) = true := by decide +kernel
/-- RoundTripOnTheWire: a state in which nothing hinders any form: no fault, and two successful verdicts. -/
theorem witness_RoundTripOnTheWire : (sent bench [] [1, 1]).trig = false ∧
    (∀ i, unhindered i (sent bench [] [1, 1])) ∧ ∀ i, unhindered i (sent bench [] [1]) :=
  ⟨rfl, fun _ => ⟨fun _ => by decide +kernel, fun _ n => ⟨xor_quiet n, xor_quiet n⟩⟩,
    fun _ => ⟨fun _ => by decide +kernel, fun _ n => ⟨xor_quiet n, xor_quiet n⟩⟩⟩

end

end Sys2Proof.Tests
end

section
/-! The opcode map of 30_encoding.md rules R99 and R100: the opcode byte alone tells which command a frame holds, and the
opcode of a command is a row of the table. -/

namespace Sys2Proof.Machine

/-- The constructor of the command that the decoder reads from the opcode `op` and zero bytes after it. The 32 zero bytes
fill the longest fixed format and begin with the length field 0 of a variable one, so no frame is left incomplete. -/
def decodedCtorIdx (op : Byte) : Option Nat :=
  match decode (op :: List.replicate 32 0#8) with
  | .ok i _ => some i.ctorIdx
  | .incomplete => none

/-- The decoder has no row for the opcodes that rule R102 lists as unknown. -/
theorem decodedCtorIdx_of_isUnknownOpcode :
    ∀ op : Byte, isUnknownOpcode op = true → decodedCtorIdx op = some (Instr.unknown op).ctorIdx := by decide +kernel

/-- The decoder recovers the constructor of a well-formed command from its opcode: `opcodeOf` has a left inverse. -/
theorem decodedCtorIdx_opcodeOf {i : Instr} (h : i.wf = true) : decodedCtorIdx (opcodeOf i) = some i.ctorIdx := by
  cases i with
  | unknown op => exact decodedCtorIdx_of_isUnknownOpcode op h
  | _ => rfl

theorem ctorIdx_eq_of_opcodeOf_eq {i j : Instr} (hi : i.wf = true) (hj : j.wf = true) (h : opcodeOf i = opcodeOf j) :
    i.ctorIdx = j.ctorIdx :=
  Option.some.inj <| calc
    some i.ctorIdx = decodedCtorIdx (opcodeOf i) := (decodedCtorIdx_opcodeOf hi).symm
    _ = decodedCtorIdx (opcodeOf j) := by rw [h]
    _ = some j.ctorIdx := decodedCtorIdx_opcodeOf hj

theorem opcodeOf_mem_commandOpcodes {i : Instr} (h : isBareOpcode i = false) : opcodeOf i ∈ commandOpcodes := by
  cases i with
  | fi0 | fi1 | fi2 | fi3 | fi4 | fi5 | fi6 | fi7 | fi8 | fi9 | fi10 | fi11 | fi12 | fi13 | fi14 | fi15
  | unknown _ => cases h
  | _ => exact List.mem_of_elem_eq_true rfl

/-- Settles O4: the decoder inverts the map on opcodes, and a well-formed configuration keeps its two sets apart from the
opcodes of the table. -/
theorem opcodeMapInjective : Obligations.OpcodeMapInjective :=
  ⟨fun _ _ hi hj h => ctorIdx_eq_of_opcodeOf_eq hi hj h, fun _ hcfg _ hi =>
    ⟨fun hfi => hcfg.fi_disjoint _ hfi (opcodeOf_mem_commandOpcodes hi),
      fun hext => hcfg.ext_disjoint _ hext (opcodeOf_mem_commandOpcodes hi)⟩⟩

end Sys2Proof.Machine
end

section
/-! The trigger generator of 40_trigger.md rules R131 and R132. -/

namespace Sys2Proof.Machine

/-- Settles O38: within its precondition each operation is the write of `TRIG` followed by the one event, and the two
state operations `withTrig` and `emit` are by definition updates of `trig` and `trace` alone. -/
theorem triggerOperations : Obligations.TriggerOperations :=
  fun s => ⟨fun low => trigBegin_low s low, fun high => trigEnd_high s high⟩

end Sys2Proof.Machine
end

section
/-! Decoding and encoding (30_encoding.md rules R90 to R102): what each format reads, what the decoder can make of an
opcode, and the statements on frames that follow. -/

namespace Sys2Proof.Machine

/-! ### The payload assembly of the formats -/

/-- The bytes taken from the front and those left are the bytes there were. -/
theorem takeBytes_eq_some {n : Nat} {bs rest : List Byte} {p : Bytes n} :
    takeBytes n bs = some (p, rest) ↔ p.toList ++ rest = bs := by
  unfold takeBytes
  split
  case isTrue h =>
    constructor
    · intro heq
      obtain ⟨rfl, rfl⟩ := Prod.mk.inj (Option.some.inj heq)
      exact List.take_append_drop n bs
    · rintro rfl
      have hp : p.toList.length = n := by simp
      simp only [Option.some.injEq, Prod.mk.injEq]
      exact ⟨Vector.toList_inj.1 (by rw [Vector.toList_mk]; exact List.take_left' hp), List.drop_left' hp⟩
  case isFalse h =>
    refine ⟨nofun, fun heq => absurd ?_ h⟩
    simp [← heq]

theorem fixedFrame_eq_ok {n : Nat} {make : Bytes n → Instr} {bs rest : List Byte} {i : Instr} :
    fixedFrame make bs = .ok i rest ↔ ∃ p, make p = i ∧ p.toList ++ rest = bs := by
  simp only [← takeBytes_eq_some, fixedFrame]
  split
  · rename_i p rest' h
    simp [h]
  · rename_i h
    simp [h]

theorem fixedFrame_append {n : Nat} (make : Bytes n → Instr) (p : Bytes n) (rest : List Byte) :
    fixedFrame make (p.toList ++ rest) = .ok (make p) rest := fixedFrame_eq_ok.2 ⟨p, rfl, rfl⟩

/-- An incomplete fixed frame is completed by any bytes that fill its payload. -/
theorem fixedFrame_incomplete {n : Nat} {make : Bytes n → Instr} {bs : List Byte}
    (h : fixedFrame make bs = .incomplete) : ∃ (more : List Byte) (p : Bytes n), p.toList = bs ++ more := by
  have hlt : bs.length < n := by
    by_contra hle
    simp [fixedFrame, takeBytes, Nat.le_of_not_lt hle] at h
  refine ⟨List.replicate (n - bs.length) 0#8, ⟨(bs ++ List.replicate (n - bs.length) 0#8).toArray, ?_⟩, rfl⟩
  simp
  omega

/-- The length field names `256*hi + lo` (rule R96). -/
theorem lengthField_eq (hi lo : Byte) : lengthField hi lo = BitVec.ofNat 16 (256 * hi.toNat + lo.toNat) := by
  apply BitVec.eq_of_toNat_eq
  have hor := Nat.two_pow_add_eq_or_of_lt lo.isLt hi.toNat
  rw [lengthField, BitVec.toNat_append, BitVec.toNat_ofNat, Nat.shiftLeft_eq, Nat.mul_comm, ← hor]
  omega

theorem lengthField_toNat (hi lo : Byte) : (lengthField hi lo).toNat = 256 * hi.toNat + lo.toNat := by
  rw [lengthField_eq, BitVec.toNat_ofNat]
  omega

theorem lengthField_bytes (len : BitVec 16) : lengthField (len.extractLsb' 8 8) (len.extractLsb' 0 8) = len := by
  apply BitVec.eq_of_toNat_eq
  rw [lengthField_toNat, BitVec.extractLsb'_toNat, BitVec.extractLsb'_toNat, Nat.shiftRight_eq_div_pow,
    Nat.shiftRight_eq_div_pow]
  omega

theorem high_lengthField (hi lo : Byte) : (lengthField hi lo).extractLsb' 8 8 = hi := by
  apply BitVec.eq_of_toNat_eq
  rw [BitVec.extractLsb'_toNat, lengthField_toNat, Nat.shiftRight_eq_div_pow]
  omega

theorem low_lengthField (hi lo : Byte) : (lengthField hi lo).extractLsb' 0 8 = lo := by
  apply BitVec.eq_of_toNat_eq
  rw [BitVec.extractLsb'_toNat, lengthField_toNat, Nat.shiftRight_eq_div_pow]
  omega

theorem varPayloadOk_iff {len : BitVec 16} {p : List Byte} :
    varPayloadOk len p = true ↔ p.length = min len.toNat Config.scrCap := by simp [varPayloadOk]

theorem varFrame_cons (make : BitVec 16 → List Byte → Instr) (hi lo : Byte) (bs : List Byte) :
    varFrame make (hi :: lo :: bs) =
      if min (lengthField hi lo).toNat Config.scrCap ≤ bs.length then
        .ok (make (lengthField hi lo) (bs.take (min (lengthField hi lo).toNat Config.scrCap)))
          (bs.drop (min (lengthField hi lo).toNat Config.scrCap))
      else .incomplete := rfl

theorem varFrame_append (make : BitVec 16 → List Byte → Instr) (len : BitVec 16) (p rest : List Byte)
    (h : varPayloadOk len p = true) : varFrame make (varReceived len p ++ rest) = .ok (make len p) rest := by
  have hl := varPayloadOk_iff.1 h
  rw [varReceived, List.cons_append, List.cons_append, varFrame_cons, lengthField_bytes, ← hl,
    if_pos (by simp), List.take_left' rfl, List.drop_left' rfl]

theorem varFrame_eq_ok {make : BitVec 16 → List Byte → Instr} {bs rest : List Byte} {i : Instr}
    (h : varFrame make bs = .ok i rest) :
    ∃ len p, varPayloadOk len p = true ∧ make len p = i ∧ varReceived len p ++ rest = bs := by
  match bs with
  | [] | [_] => cases h
  | hi :: lo :: bs =>
    rw [varFrame_cons] at h
    split at h
    · rename_i hle
      obtain ⟨rfl, rfl⟩ := DecodeResult.ok.inj h
      refine ⟨_, _, varPayloadOk_iff.2 (List.length_take_of_le hle), rfl, ?_⟩
      rw [varReceived, high_lengthField, low_lengthField, List.cons_append, List.cons_append, List.take_append_drop]
    · cases h

/-- An incomplete variable frame is completed by the bytes that its length field, once there, asks for. -/
theorem varFrame_incomplete {make : BitVec 16 → List Byte → Instr} {bs : List Byte}
    (h : varFrame make bs = .incomplete) :
    ∃ (more : List Byte) (len : BitVec 16) (p : List Byte),
      varPayloadOk len p = true ∧ varReceived len p = bs ++ more := by
  match bs with
  | [] => exact ⟨[0, 0], 0, [], rfl, rfl⟩
  | [hi] =>
    have hp : varPayloadOk (lengthField hi 0) (List.replicate (min (lengthField hi 0).toNat Config.scrCap) 0) = true :=
      varPayloadOk_iff.2 (by simp)
    exact ⟨0 :: List.replicate (min (lengthField hi 0).toNat Config.scrCap) 0, _, _, hp, by
      rw [varReceived, high_lengthField, low_lengthField]; rfl⟩
  | hi :: lo :: bs =>
    rw [varFrame_cons] at h
    split at h
    · cases h
    · rename_i hlt
      have hp : varPayloadOk (lengthField hi lo)
          (bs ++ List.replicate (min (lengthField hi lo).toNat Config.scrCap - bs.length) 0) = true := by
        rw [varPayloadOk_iff, List.length_append, List.length_replicate]
        omega
      exact ⟨_, _, _, hp, by rw [varReceived, high_lengthField, low_lengthField]; rfl⟩

/-! ### The decoder -/

theorem isUnknownOpcode_or_known : ∀ op : Byte,
    isUnknownOpcode op = true ∨ op ∈ commandOpcodes ++ defaultFiOpcodes := by decide +kernel

/-- What the decoder makes of an opcode and the bytes `rest` after it: it assembles the payload of the format of a row,
whose frame is `encode`'s, or the opcode is a frame by itself. -/
inductive DecodeCase (op : Byte) (rest : List Byte) : DecodeResult → Prop where
  | fixed {n : Nat} (make : Bytes n → Instr) (henc : ∀ p, encode (make p) = op :: p.toList)
    (hwf : ∀ p, (make p).wf = true) (hbare : ∀ p, isBareOpcode (make p) = false) :
    DecodeCase op rest (fixedFrame make rest)
  | var (make : BitVec 16 → List Byte → Instr) (henc : ∀ len p, encode (make len p) = op :: varReceived len p)
    (hwf : ∀ len p, (make len p).wf = varPayloadOk len p) (hbare : ∀ len p, isBareOpcode (make len p) = false) :
    DecodeCase op rest (varFrame make rest)
  | bare (i : Instr) (henc : encode i = [op]) (hwf : i.wf = true) (hbare : isBareOpcode i = true) :
    DecodeCase op rest (.ok i rest)

theorem decodeFrame_cases (op : Byte) (rest : List Byte) : DecodeCase op rest (decodeFrame op rest) := by
  unfold decodeFrame
  split
  case h_62 =>
    have hu : isUnknownOpcode op = true := by
      rcases isUnknownOpcode_or_known op with h | h
      · exact h
      · simp_all [commandOpcodes, defaultFiOpcodes]
    exact .bare (.unknown op) rfl hu rfl
  all_goals first
    | exact .fixed _ (fun _ => rfl) (fun _ => rfl) (fun _ => rfl)
    | exact .var _ (fun _ _ => rfl) (fun _ _ => rfl) (fun _ _ => rfl)
    | exact .bare _ rfl rfl rfl

theorem decodeFrame_of_isUnknownOpcode {op : Byte} (h : isUnknownOpcode op = true) (rest : List Byte) :
    decodeFrame op rest = .ok (.unknown op) rest := by
  unfold decodeFrame
  split
  case h_62 => rfl
  all_goals exact absurd h (by decide)

/-- Settles O2, row by row: the decoder finds the row by the opcode byte, and each format reads back the payload that
`encode` laid out. -/
theorem decodeEncode : Obligations.DecodeEncode := by
  intro i rest h
  cases i with
  | rsacrt | rsasfm | rsasfmRd | rsacrtDc => exact varFrame_append _ _ _ rest h
  | fi0 | fi1 | fi2 | fi3 | fi4 | fi5 | fi6 | fi7 | fi8 | fi9 | fi10 | fi11 | fi12 | fi13 | fi14 | fi15 => rfl
  | unknown op => exact decodeFrame_of_isUnknownOpcode h rest
  | _ => exact fixedFrame_append _ _ rest

/-- Settles O3, by the three formats that a frame can have. -/
theorem encodeDecode : Obligations.EncodeDecode := by
  intro bs rest i h
  match bs with
  | [] => cases h
  | op :: tail =>
    change decodeFrame op tail = .ok i rest at h
    have hc := decodeFrame_cases op tail
    rw [h] at hc
    generalize hr : DecodeResult.ok i rest = r at hc
    cases hc with
    | fixed make henc hwf =>
      obtain ⟨p, rfl, rfl⟩ := fixedFrame_eq_ok.1 hr.symm
      exact ⟨hwf p, by rw [henc]; rfl⟩
    | var make henc hwf =>
      obtain ⟨len, p, hp, rfl, rfl⟩ := varFrame_eq_ok hr.symm
      exact ⟨by rw [hwf, hp], by rw [henc]; rfl⟩
    | bare j henc hwf =>
      obtain ⟨rfl, rfl⟩ := DecodeResult.ok.inj hr
      exact ⟨hwf, by rw [henc]; rfl⟩

/-- Settles O5: the two directions are those of O2 and O3 for the constructor `unknown`. -/
theorem unknownOpcodesAreTheRest : Obligations.UnknownOpcodesAreTheRest :=
  ⟨fun op rest => ⟨fun h => decodeEncode (.unknown op) rest h, fun h => (encodeDecode _ _ _ h).1⟩, by decide +kernel⟩

/-- Settles O6. -/
theorem variableFrameIsClipped : Obligations.VariableFrameIsClipped := by
  intro hi lo bs
  have hframe (make : BitVec 16 → List Byte → Instr) := varFrame_cons make hi lo bs
  simp only [lengthField_toNat] at hframe
  simp only [lengthField_eq] at hframe
  exact ⟨hframe .rsacrt, hframe .rsasfm, hframe .rsasfmRd, hframe .rsacrtDc⟩

/-- Settles O7: the bytes of a complete frame are those of its command, so the decoder finds it again. -/
theorem laterBytesDoNotChangeAFrame : Obligations.LaterBytesDoNotChangeAFrame := by
  intro bs more rest i h
  obtain ⟨hwf, rfl⟩ := encodeDecode bs rest i h
  rw [List.append_assoc]
  exact decodeEncode i (rest ++ more) hwf

theorem exists_completion {bs : List Byte} (h : decode bs = .incomplete) :
    ∃ (more : List Byte) (i : Instr), i.wf = true ∧ encode i = bs ++ more := by
  match bs with
  | [] => exact ⟨[0xE0#8], .fi0, rfl, rfl⟩
  | op :: tail =>
    change decodeFrame op tail = .incomplete at h
    have hc := decodeFrame_cases op tail
    rw [h] at hc
    generalize hr : DecodeResult.incomplete = r at hc
    cases hc with
    | fixed make henc hwf =>
      obtain ⟨more, p, hp⟩ := fixedFrame_incomplete hr.symm
      exact ⟨more, make p, hwf p, by rw [henc, hp]; rfl⟩
    | var make henc hwf =>
      obtain ⟨more, len, p, hp, hb⟩ := varFrame_incomplete hr.symm
      exact ⟨more, make len p, by rw [hwf, hp], by rw [henc, hb]; rfl⟩
    | bare => cases hr

/-- Settles O9. -/
theorem waitsForTheWholeFrame : Obligations.WaitsForTheWholeFrame := by
  refine ⟨fun s hseq hdec => by simp only [step, hseq, hdec], fun bs h => ?_⟩
  obtain ⟨more, i, hwf, henc⟩ := exists_completion h
  refine ⟨more, i, ?_⟩
  rw [← henc, ← List.append_nil (encode i)]
  exact decodeEncode i [] hwf

/-- Settles O1: the nine words, evaluated. -/
theorem tableWordsDecode : Obligations.TableWordsDecode := by
  refine ⟨?_, ?_, ?_, ?_, ?_, ?_, ?_, ?_, ?_⟩ <;> decide +kernel

end Sys2Proof.Machine
end

section
/-! What one command and one step leave (10_state.md, 60_exceptions.md, 70_reset_and_hazards.md): the registers that a
command writes by name, the ways a completed command and a step can go, and the statements on all commands and all steps
that follow from them. -/

namespace Sys2Proof.Machine

/-! ### What a command's named writes leave unchanged -/

section
variable (i : Instr) (s : State)

@[simp] theorem written_glitched : (written i s).glitched = s.glitched := by cases i <;> rfl
@[simp] theorem written_scr : (written i s).scr = s.scr := by cases i <;> rfl
@[simp] theorem written_cpos : (written i s).cpos = s.cpos := by cases i <;> rfl
@[simp] theorem written_xsel : (written i s).xsel = s.xsel := by cases i <;> rfl
@[simp] theorem written_trig : (written i s).trig = s.trig := by cases i <;> rfl
@[simp] theorem written_faultpin : (written i s).faultpin = s.faultpin := by cases i <;> rfl
@[simp] theorem written_cfg : (written i s).cfg = s.cfg := by cases i <;> rfl
@[simp] theorem written_strap : (written i s).strap = s.strap := by cases i <;> rfl
@[simp] theorem written_bootCounter : (written i s).bootCounter = s.bootCounter := by cases i <;> rfl
@[simp] theorem written_rx : (written i s).rx = s.rx := by cases i <;> rfl
@[simp] theorem written_trace : (written i s).trace = s.trace := by cases i <;> rfl

end

/-- The schedule register stays the schedule of the key register. -/
theorem written_schedule (i : Instr) {s : State} (h : s.rk256 = packSchedule (aesKeyExpansion 8 s.keyAes256)) :
    (written i s).rk256 = packSchedule (aesKeyExpansion 8 (written i s).keyAes256) := by
  cases i with
  | aes256Key k => rfl
  | _ => exact h

theorem written_plen_le (i : Instr) {s : State} (h : s.plen.toNat ≤ Config.scrCap) :
    (written i s).plen.toNat ≤ Config.scrCap := by
  have hvar (len : BitVec 16) : (BitVec.ofNat 16 (min len.toNat Config.scrCap)).toNat ≤ Config.scrCap := by
    rw [BitVec.toNat_ofNat]
    exact (Nat.mod_le _ _).trans (Nat.min_le_right _ _)
  cases i with
  | rsacrt len | rsasfm len | rsasfmRd len | rsacrtDc len => exact hvar len
  | _ => exact h

/-! ### Opcodes outside the map -/

theorem written_of_bare {i : Instr} (h : isBareOpcode i = true) (s : State) : written i s = s := by
  cases i <;> first | rfl | cases h

theorem encode_of_bare {i : Instr} (h : isBareOpcode i = true) : encode i = [opcodeOf i] := by
  cases i <;> first | rfl | cases h

theorem payloadLen_of_bare {i : Instr} (h : isBareOpcode i = true) : payloadLen i = 0 := by
  cases i <;> first | rfl | cases h

theorem encode_eq_cons (i : Instr) : encode i = opcodeOf i :: (encode i).drop 1 := by cases i <;> rfl

theorem encode_length {i : Instr} (h : i.wf = true) : (encode i).length = frameLen i := by
  cases i with
  | rsacrt | rsasfm | rsasfmRd | rsacrtDc => exact Laws.FrameLength.var_length _ _ _ h
  | fi0 | fi1 | fi2 | fi3 | fi4 | fi5 | fi6 | fi7 | fi8 | fi9 | fi10 | fi11 | fi12 | fi13 | fi14 | fi15
  | unknown => rfl
  | _ => simp [encode, frameLen]

theorem not_mem_commandOpcodes_of_isUnknownOpcode :
    ∀ op : Byte, isUnknownOpcode op = true → op ∉ commandOpcodes := by decide +kernel

theorem opcodeOf_not_mem_commandOpcodes {i : Instr} (hw : i.wf = true) (h : isBareOpcode i = true) :
    opcodeOf i ∉ commandOpcodes := by
  cases i with
  | unknown op => exact not_mem_commandOpcodes_of_isUnknownOpcode op hw
  | fi0 | fi1 | fi2 | fi3 | fi4 | fi5 | fi6 | fi7 | fi8 | fi9 | fi10 | fi11 | fi12 | fi13 | fi14 | fi15 =>
    decide
  | _ => cases h

/-- An opcode outside the map is a frame by itself. -/
theorem decode_of_not_mem_commandOpcodes {op : Byte} (h : op ∉ commandOpcodes) (rest : List Byte) :
    ∃ i, decode (op :: rest) = .ok i rest ∧ isBareOpcode i = true ∧ opcodeOf i = op := by
  have hmem (i : Instr) (bs : List Byte) (henc : encode i = op :: bs) (hb : isBareOpcode i = false) : False :=
    h (by simpa [opcodeOf, henc] using opcodeOf_mem_commandOpcodes hb)
  change ∃ i, decodeFrame op rest = .ok i rest ∧ _
  have hc := decodeFrame_cases op rest
  generalize decodeFrame op rest = r at hc ⊢
  cases hc with
  | @fixed n make henc _ hbare => exact (hmem _ _ (henc (zeroBytes n)) (hbare _)).elim
  | var make henc _ hbare => exact (hmem _ _ (henc 0 []) (hbare _ _)).elim
  | bare i henc _ hbare => exact ⟨i, rfl, hbare, by simp [opcodeOf, henc]⟩

/-- A decoded opcode outside the map is the byte that was waiting. -/
theorem decode_of_bare {i : Instr} {bs rest : List Byte} (hd : decode bs = .ok i rest) (h : isBareOpcode i = true) :
    bs = opcodeOf i :: rest ∧ opcodeOf i ∉ commandOpcodes := by
  obtain ⟨hw, rfl⟩ := encodeDecode _ _ _ hd
  exact ⟨by rw [encode_of_bare h]; rfl, opcodeOf_not_mem_commandOpcodes hw h⟩

theorem runsScenario_iff {cfg : Config} {i : Instr} :
    runsScenario cfg i = true ↔ isBareOpcode i = true ∧ opcodeOf i ∈ cfg.fiOpcodes := by simp [runsScenario]

theorem isExternal_iff {cfg : Config} {i : Instr} : isExternal cfg i = true ↔
    isBareOpcode i = true ∧ opcodeOf i ∉ cfg.fiOpcodes ∧ opcodeOf i ∈ cfg.extOpcodes := by
  simp [isExternal, and_assoc]

theorem isUnknown_iff {cfg : Config} {i : Instr} : isUnknown cfg i = true ↔
    isBareOpcode i = true ∧ opcodeOf i ∉ cfg.fiOpcodes ∧ opcodeOf i ∉ cfg.extOpcodes := by
  simp [isUnknown, and_assoc]

/-! ### What a completed command leaves, and what a step can do -/

/-- The states that a command can leave. -/
inductive NextCase (i : Instr) (s : State) : State → Prop where
  | done (e : Effect) (h : EffectOf i s e) : NextCase i s (completed (written i s) e)
  | survived (hi : runsScenario s.cfg i = true) (ht : s.trig = false) :
    NextCase i s (scenarioSurvived (opcodeOf i) s)
  | crashed (hi : runsScenario s.cfg i = true) (hb : drawBool s 0 = false) (ht : s.trig = false) :
    NextCase i s (scenarioCrashed s)

theorem exec_next_cases {i : Instr} {s t : State} (hw : i.wf = true) (h : exec i s = .next t) : NextCase i s t := by
  have hc := exec_cases i s hw
  rw [h] at hc
  cases hc with
  | done e he => exact .done e he
  | survived hi _ ht => exact .survived hi ht
  | crashed hi hb ht => exact .crashed hi hb ht

/-- The ways a step can go (10_state.md rule R31). -/
inductive StepCase (s : State) : Res → Prop where
  | boot (hseq : s.seq = .boot) : StepCase s (.next (bootSequence s))
  | halted (hseq : s.seq = .halted) : StepCase s (.fault .haltedForEver)
  | waiting (hseq : s.seq = .awaitOpcode) (hd : decode s.rx = .incomplete) : StepCase s (.fault .awaitingBytes)
  | runs (i : Instr) (rest : List Byte) (r : Res) (hseq : s.seq = .awaitOpcode) (hd : decode s.rx = .ok i rest)
    (hw : i.wf = true) (hr : exec i (beginIteration rest s) = r) : StepCase s r

theorem step_await {s : State} {i : Instr} {rest : List Byte} (hseq : s.seq = .awaitOpcode)
    (hd : decode s.rx = .ok i rest) : step s = exec i (beginIteration rest s) := by
  simp only [step, hseq, hd]

theorem step_cases (s : State) : StepCase s (step s) := by
  cases hseq : s.seq with
  | boot => simp only [step, hseq]; exact .boot hseq
  | halted => simp only [step, hseq]; exact .halted hseq
  | awaitOpcode =>
    cases hd : decode s.rx with
    | incomplete => simp only [step, hseq, hd]; exact .waiting hseq hd
    | ok i rest => exact .runs i rest _ hseq hd (encodeDecode _ _ _ hd).1 (step_await hseq hd).symm

/-- The states that a step can leave. -/
theorem step_next_cases {s t : State} (h : step s = .next t) :
    (s.seq = .boot ∧ t = bootSequence s) ∨
    ∃ i rest, s.seq = .awaitOpcode ∧ decode s.rx = .ok i rest ∧ i.wf = true ∧ NextCase i (beginIteration rest s) t := by
  have hc := step_cases s
  rw [h] at hc
  cases hc with
  | boot hseq => exact .inl ⟨hseq, rfl⟩
  | runs i rest _ hseq hd hw hr => exact .inr ⟨i, rest, hseq, hd, hw, exec_next_cases hw hr⟩

/-! ### The invariant of the state -/

theorem inv_bootSequence {s : State} (h : Inv s) : Inv (bootSequence s) where
  scr_wf := h.scr_wf
  plen_le := h.plen_le
  trig_low _ := rfl
  schedule _ := rfl
  pin_clear _ := rfl
  pin_marked := nofun

/-- A command started between commands keeps the invariant. -/
theorem inv_of_nextCase {i : Instr} {s t : State} (h : Inv s) (hseq : s.seq = .awaitOpcode) (hc : NextCase i s t) :
    Inv t := by
  have hplen := h.plen_le
  have htrig := h.trig_low hseq
  have hsched := h.schedule hseq
  have hpin := h.pin_clear hseq
  cases hc with
  | done e he =>
    exact ⟨he.wf h.scr_wf, written_plen_le i hplen, fun _ => by simpa using htrig, fun _ => written_schedule i hsched,
      fun _ => by simpa using hpin, nofun⟩
  | survived => exact ⟨h.scr_wf, hplen, fun _ => htrig, fun _ => hsched, fun _ => hpin, nofun⟩
  | crashed => exact ⟨h.scr_wf, hplen, nofun, nofun, nofun, fun _ => rfl⟩

theorem inv_beginIteration {s : State} (h : Inv s) (rest : List Byte) : Inv (beginIteration rest s) where
  scr_wf := wf_nil
  plen_le := Nat.zero_le _
  trig_low := h.trig_low
  schedule := h.schedule
  pin_clear := h.pin_clear
  pin_marked := h.pin_marked

/-- Settles O14: the reset sequence, the head of an iteration and every command keep the invariant. -/
theorem stepKeepsInv : Obligations.StepKeepsInv := by
  intro s t hs h
  rcases step_next_cases h with ⟨-, rfl⟩ | ⟨i, rest, hseq, -, -, hc⟩
  · exact inv_bootSequence hs
  · exact inv_of_nextCase (inv_beginIteration hs rest) hseq hc

/-! ### The discipline of the window -/

theorem windowLevel_append (echoes : List Byte) (level : Bool) (a b : List Event) :
    windowLevel echoes level (a ++ b) = (windowLevel echoes level a).bind fun l => windowLevel echoes l b := by
  induction a generalizing level with
  | nil => rfl
  | cons e es ih =>
    simp only [List.cons_append, windowLevel]
    cases windowStep echoes level e with
    | none => rfl
    | some l => exact ih l

theorem windowLevel_rx (echoes bs : List Byte) : windowLevel echoes false (bs.map .rx) = some false := by
  induction bs with
  | nil => rfl
  | cons b bs ih => exact ih

theorem windowLevel_tx (echoes bs : List Byte) : windowLevel echoes false (bs.map .tx) = some false := by
  induction bs with
  | nil => rfl
  | cons b bs ih => exact ih

/-- The events of a completed command keep the discipline and leave no window open. -/
theorem windowLevel_events (echoes : List Byte) (e : Effect) : windowLevel echoes false e.events = some false := by
  have hw : windowLevel echoes false (if e.window then [.trigRise, .trigFall] else []) = some false := by
    cases e.window <;> rfl
  rw [Effect.events, windowLevel_append, windowLevel_append, windowLevel_rx, Option.bind_some, hw, Option.bind_some,
    windowLevel_tx]

theorem windowLevel_survived {echoes : List Byte} {op : Byte} (h : op ∈ echoes) :
    windowLevel echoes false [.trigRise, .tx op, .trigFall] = some false := by
  simp [windowLevel, windowStep, h]

/-- A command started between commands keeps the discipline of the window. -/
theorem windowInv_of_nextCase {i : Instr} {s t : State} (h : WindowInv s) (hseq : s.seq = .awaitOpcode)
    (hc : NextCase i s t) : WindowInv t := by
  have htrig := h.trig_low hseq
  have hlevel := h.trace_level (by simp [hseq])
  rw [htrig] at hlevel
  cases hc with
  | done e he =>
    refine ⟨fun _ => ?_, nofun, fun _ => by simpa using htrig⟩
    simp only [completed_trace, completed_cfg, completed_trig, written_trace, written_cfg, written_trig]
    rw [windowLevel_append, hlevel, Option.bind_some, windowLevel_events, htrig]
  | survived hi =>
    refine ⟨fun _ => ?_, nofun, fun _ => htrig⟩
    simp only [scenarioSurvived_trace, scenarioSurvived_cfg, scenarioSurvived_trig]
    rw [windowLevel_append, hlevel, Option.bind_some, windowLevel_survived (runsScenario_iff.1 hi).2, htrig]
  | crashed =>
    refine ⟨fun _ => ?_, nofun, nofun⟩
    simp only [scenarioCrashed_trace, scenarioCrashed_cfg, scenarioCrashed_trig]
    rw [windowLevel_append, hlevel, Option.bind_some]
    rfl

theorem windowInv_bootSequence {s : State} (h : WindowInv s) (hseq : s.seq = .boot) : WindowInv (bootSequence s) where
  trace_level _ := by
    change windowLevel _ false s.trace = some false
    rw [h.boot_silent hseq]
    rfl
  boot_silent := nofun
  trig_low _ := rfl

theorem windowInv_beginIteration {s : State} (h : WindowInv s) (hseq : s.seq = .awaitOpcode) (rest : List Byte) :
    WindowInv (beginIteration rest s) where
  trace_level _ := by
    rw [beginIteration_cfg, beginIteration_trace, beginIteration_trig, windowLevel_append,
      h.trace_level (by simp [hseq]), h.trig_low hseq]
    rfl
  boot_silent hb := by simp [hseq] at hb
  trig_low := h.trig_low

/-- Settles O15: the events of a completed command keep the discipline whatever set of echoes is allowed; the invariant
adds the two outcomes of a scenario. -/
theorem stepKeepsWindow : Obligations.StepKeepsWindow := by
  refine ⟨fun s t hs h => ?_, fun s t i rest hseq hd hi h => ?_⟩
  · rcases step_next_cases h with ⟨hseq, rfl⟩ | ⟨i, rest, hseq, -, -, hc⟩
    · exact windowInv_bootSequence hs hseq
    · exact windowInv_of_nextCase (windowInv_beginIteration hs hseq rest) hseq hc
  · have hw := (encodeDecode _ _ _ hd).1
    rw [step_await hseq hd] at h
    have hno : runsScenario (beginIteration rest s).cfg i ≠ true := by simp [hi]
    cases exec_next_cases hw h with
    | done e he =>
      refine ⟨[.rx (s.rx.headD 0#8)] ++ e.events, by simp, ?_⟩
      rw [windowLevel_append]
      exact windowLevel_events [] e
    | survived hs => exact absurd hs hno
    | crashed hs => exact absurd hs hno

/-! ### Why a step does not go on -/

/-- Settles O16: with the line low between commands no command faults. -/
theorem onlyStuckWaitingOrHalted : Obligations.OnlyStuckWaitingOrHalted := by
  intro s f hs h
  have hc := step_cases s
  rw [h] at hc
  cases hc with
  | halted => exact .inr rfl
  | waiting => exact .inl rfl
  | runs i rest _ hseq hd hw hr =>
    have he := exec_cases i (beginIteration rest s) hw
    rw [hr] at he
    cases he with
    | high ht => simp [hs.trig_low hseq] at ht

/-- The domain of an RSA operand, as the statements name it. -/
theorem rsaOutsideDomain_iff {key : RsaKey} {p : List Byte} :
    rsaOutsideDomain key p.length (beValue p) = true ↔ p.length ≠ key.k ∨ key.n ≤ beValue p ∨ p = [] := by
  simp [rsaOutsideDomain]
  tauto

/-- Settles O17: the two refusals of `exec_cases`, traced back to the waiting bytes. -/
theorem onlyRsaOperandsAndExternalOpcodesAreRefused : Obligations.OnlyRsaOperandsAndExternalOpcodesAreRefused := by
  refine ⟨fun s r h => ?_, fun s op rest hseq hrx hop hfi hext => ?_⟩
  · have hc := step_cases s
    rw [h] at hc
    cases hc with
    | runs i rest _ hseq hd hw hr =>
      have he := exec_cases i (beginIteration rest s) hw
      rw [hr] at he
      cases he with
      | refused hi hdom => exact .inl ⟨rfl, i, rest, hd, hi, rsaOutsideDomain_iff.1 hdom⟩
      | external hi =>
        obtain ⟨hbare, hfi, hext⟩ := isExternal_iff.1 hi
        obtain ⟨hrx, hop⟩ := decode_of_bare hd hbare
        exact .inr ⟨opcodeOf i, rest, rfl, hrx, hop, hfi, hext⟩
  · obtain ⟨i, hd, hbare, rfl⟩ := decode_of_not_mem_commandOpcodes hop rest
    rw [step_await hseq (hrx ▸ hd), exec_bare hbare,
      otherOpcode_external _ _ (by simpa using hfi) (by simpa using hext)]

/-- Settles O18. -/
theorem haltsOnlyInTheCatalogue : Obligations.HaltsOnlyInTheCatalogue := by
  intro s t h hhalt
  rcases step_next_cases h with ⟨-, rfl⟩ | ⟨i, rest, hseq, hd, hw, hc⟩
  · cases hhalt
  · cases hc with
    | done | survived => cases hhalt
    | crashed hi hb =>
      obtain ⟨hbare, hfi⟩ := runsScenario_iff.1 hi
      obtain ⟨hrx, hop⟩ := decode_of_bare hd hbare
      exact ⟨opcodeOf i, rest, hseq, hrx, hop, hfi, hb⟩

/-! ### What an iteration takes -/

theorem rxCount_append (a b : List Event) : rxCount (a ++ b) = rxCount a + rxCount b := by simp [rxCount]

theorem rxCount_tx (bs : List Byte) : rxCount (bs.map .tx) = 0 := by
  induction bs with
  | nil => rfl
  | cons b bs ih => exact ih

/-- What a command started with its opcode taken has received, and what its other events are. -/
theorem nextCase_takes {i : Instr} {s t : State} (hc : NextCase i s t) :
    t.rx = s.rx ∧ t.cpos = s.cpos + ((encode i).drop 1).length ∧
      ∃ es, t.trace = s.trace ++ ((encode i).drop 1).map .rx ++ es ∧ rxCount es = 0 := by
  cases hc with
  | done e he =>
    refine ⟨by simp, by simp [he.received], (if e.window then [.trigRise, .trigFall] else []) ++ e.sent.map .tx, ?_, ?_⟩
    · simp [Effect.events, he.received]
    · rw [rxCount_append, rxCount_tx]
      cases e.window <;> rfl
  | survived hi =>
    rw [encode_of_bare (runsScenario_iff.1 hi).1]
    exact ⟨rfl, rfl, _, by simp; rfl, rfl⟩
  | crashed hi =>
    rw [encode_of_bare (runsScenario_iff.1 hi).1]
    exact ⟨rfl, rfl, _, by simp; rfl, rfl⟩

/-- Settles O19: the dispatcher takes the opcode, the command the rest of its frame. -/
theorem iterationTakesItsFrame : Obligations.IterationTakesItsFrame := by
  intro s t i rest hseq hd h
  obtain ⟨hw, hrx⟩ := encodeDecode _ _ _ hd
  rw [step_await hseq hd] at h
  obtain ⟨ht, hcpos, es, htrace, hes⟩ := nextCase_takes (exec_next_cases hw h)
  have hhead : s.rx.headD 0#8 = opcodeOf i := by rw [← hrx, encode_eq_cons]; rfl
  have hlen : frameLen i = 1 + ((encode i).drop 1).length := by
    rw [← encode_length hw, encode_eq_cons i]
    simp [Nat.add_comm]
  refine ⟨ht, ?_, es, ?_, hes⟩
  · rw [hcpos, hlen, beginIteration_cpos, Nat.add_assoc]
  · rw [htrace, beginIteration_trace, hhead, encode_eq_cons i]
    simp

/-! ### The frames of all commands -/

/-- A scenario leaves every register that a command writes by name. -/
theorem nextCase_registers {i : Instr} {s t : State} (hc : NextCase i s t) :
    t.keyDes = (written i s).keyDes ∧ t.keyTdes = (written i s).keyTdes ∧ t.keyAes128 = (written i s).keyAes128 ∧
    t.keyAes256 = (written i s).keyAes256 ∧ t.keySm4 = (written i s).keySm4 ∧ t.pwd = (written i s).pwd ∧
    t.rk256 = (written i s).rk256 ∧ t.auth = (written i s).auth ∧ t.plen = (written i s).plen := by
  cases hc with
  | done e he => simp
  | survived hi => simp [written_of_bare (runsScenario_iff.1 hi).1]
  | crashed hi => simp [written_of_bare (runsScenario_iff.1 hi).1]

/-- Settles O20: the registers are those of `written`, read off constructor by constructor. -/
theorem keysWrittenByTheirCommands : Obligations.KeysWrittenByTheirCommands := by
  intro i s t hw h
  obtain ⟨h1, h2, h3, h4, h5, h6, h7, -, -⟩ := nextCase_registers (exec_next_cases hw h)
  rw [h1, h2, h3, h4, h5, h6, h7]
  cases i <;> exact ⟨rfl, rfl, rfl, rfl, rfl, rfl, rfl⟩

/-- What no command writes, and what only a scenario does. -/
theorem nextCase_control {i : Instr} {s t : State} (hc : NextCase i s t) :
    t.glitched = s.glitched ∧ t.xsel = s.xsel ∧ t.cfg = s.cfg ∧ t.strap = s.strap ∧ t.bootCounter = s.bootCounter ∧
    t.rx = s.rx ∧
    (runsScenario s.cfg i = false → t.faultpin = s.faultpin ∧ t.trig = s.trig ∧ t.seq = .awaitOpcode) := by
  cases hc with
  | done e he => simp
  | survived hi => exact ⟨rfl, rfl, rfl, rfl, rfl, rfl, fun hno => by simp [hi] at hno⟩
  | crashed hi => exact ⟨rfl, rfl, rfl, rfl, rfl, rfl, fun hno => by simp [hi] at hno⟩

/-- Settles O21. -/
theorem controlStateFrame : Obligations.ControlStateFrame := by
  intro i s t hw h
  have hc := exec_next_cases hw h
  obtain ⟨h1, h2, h3, h4, h5, h6, h7⟩ := nextCase_control hc
  obtain ⟨-, -, -, -, -, -, -, -, hplen⟩ := nextCase_registers hc
  exact ⟨h1, h2, h3, h4, h5, h6, h7, hplen.trans (by cases i <;> rfl)⟩

/-- Settles O22. -/
theorem authTransitions : Obligations.AuthTransitions := by
  intro i s t hw h
  obtain ⟨-, -, -, -, -, -, -, hauth, -⟩ := nextCase_registers (exec_next_cases hw h)
  rw [hauth]
  cases i <;> rfl

/-- Settles O26. -/
theorem scratchFrame : Obligations.ScratchFrame := by
  intro i s t a hw h hin hout
  cases exec_next_cases hw h with
  | done e he => exact he.frame a hin hout
  | survived | crashed => rfl

/-- Settles O27. -/
theorem payloadInScratch : Obligations.PayloadInScratch := by
  intro i s t k hw hrsa h hk
  cases exec_next_cases hw h with
  | done e he => exact he.payload hrsa k hk
  | survived hi => simp [payloadLen_of_bare (runsScenario_iff.1 hi).1] at hk
  | crashed hi => simp [payloadLen_of_bare (runsScenario_iff.1 hi).1] at hk

/-! ### The opcodes outside the map -/

theorem exec_unknown {i : Instr} {s : State} (h : isUnknown s.cfg i = true) :
    exec i s = .next (completed s ⟨[], s.scr, false, unknownResponse s.cfg s.glitched s.auth, 0⟩) := by
  obtain ⟨hbare, hfi, hext⟩ := isUnknown_iff.1 h
  rw [exec_bare hbare, otherOpcode_unknown _ _ (by simpa using hfi) (by simpa using hext), unknownOpcode_eq]

/-- Settles O58: `unknownResponse` is the policy; the step adds what the head of the iteration does. -/
theorem unknownOpcodePolicy : Obligations.UnknownOpcodePolicy := by
  refine ⟨fun i s _ h => exec_unknown h, fun op rest s hop hfi hext hseq hrx => ?_⟩
  obtain ⟨i, hd, hbare, rfl⟩ := decode_of_not_mem_commandOpcodes hop rest
  rw [step_await hseq (hrx ▸ hd), exec_unknown (s := beginIteration rest s) (isUnknown_iff.2 ⟨hbare, hfi, hext⟩)]
  simp [completed, Effect.events, unknownResponse, beginIteration, advance, emit, hrx, hseq]

/-- Settles O59. -/
theorem catalogueOutcomes : Obligations.CatalogueOutcomes := by
  intro i s ht hi
  have hexec : exec i s = catalogueCmd (opcodeOf i) s := by
    obtain ⟨hbare, hfi⟩ := runsScenario_iff.1 hi
    rw [exec_bare hbare, otherOpcode_scenario _ _ (by simpa using hfi)]
  exact ⟨fun hb => hexec.trans (catalogueCmd_survives _ s hb ht),
    fun hb => hexec.trans (catalogueCmd_crashes _ s hb ht)⟩

/-! ### Reset and the halted core -/

/-- Settles O8. -/
theorem stepRunsDecoded : Obligations.StepRunsDecoded := by
  intro s i op tail rest hseq hrx hd
  refine ⟨?_, fun _ => rfl⟩
  rw [step_await hseq hd]
  simp [beginIteration, emit, advance, hrx]

/-- Settles O10. -/
theorem haltedUntilPowerCycle : Obligations.HaltedUntilPowerCycle := by
  intro s bs strap counter hseq
  have hsend : (hostSend bs s).seq = .halted := hseq
  exact ⟨by simp only [step, hseq], by simp only [step, hsend], _, rfl, rfl, rfl, rfl, rfl, rfl⟩

theorem bootLoopGlitched_eq (cfg : Config) (counter : Nat) :
    bootLoopGlitched cfg counter = decide (counter ≠ cfg.bootLoopExpect) := by
  rw [Bool.eq_iff_iff]
  simp [bootLoopGlitched]

/-- The layout of the schedule register (10_state.md rule R28). -/
theorem getElem_packSchedule (rk : List Block) (r : Fin 15) (i : Fin 16) :
    (packSchedule rk)[16 * r.val + i.val]'(by omega) = (rk.getD r.val (zeroBytes 16))[i] := by
  have hdiv : (16 * r.val + i.val) / 16 = r.val := by omega
  have hmod : (16 * r.val + i.val) % 16 = i.val := by omega
  simp [packSchedule, hdiv, hmod]

/-- The first step after a power cycle makes the state that a reset of the same device makes. -/
theorem step_powerCycle (s : State) (strap : Bool) (counter : Nat) (bs : List Byte) :
    step (powerCycle strap counter bs s) =
      .next { State.resetWith s.cfg strap (decide (counter ≠ s.cfg.bootLoopExpect)) with
        bootCounter := counter, rx := bs, draws := s.draws, drawIx := s.drawIx, env := s.env } := by
  rw [← bootLoopGlitched_eq]
  rfl

/-- Settles O11. -/
theorem resetSequence : Obligations.ResetSequence := by
  refine ⟨fun s hseq => ?_, fun s strap counter bs => step_powerCycle s strap counter bs⟩
  refine ⟨packSchedule (aesKeyExpansion 8 s.cfg.defKeyAes256), bootLoopGlitched s.cfg s.bootCounter, ?_,
    getElem_packSchedule _, by simp [bootLoopGlitched_eq]⟩
  simp only [step, hseq, bootSequence]

/-- Settles O12. -/
theorem resetState : Obligations.ResetState := by
  refine ⟨rfl, rfl, rfl, rfl, rfl, rfl, rfl, rfl, rfl, rfl, rfl, rfl, rfl, rfl, rfl, ?_⟩
  rw [step_powerCycle]
  simp [State.reset, State.resetWith]

/-- Settles O13. -/
theorem resetKeepsInvariants : Obligations.ResetKeepsInvariants :=
  ⟨⟨wf_reset, Nat.zero_le _, fun _ => rfl, fun _ => rfl, fun _ => rfl, nofun⟩, fun _ => rfl, nofun, fun _ => rfl⟩

end Sys2Proof.Machine
end

section
/-! The algebra of the AES transformations (41_aes_functions.md rules R152 to R165): bytes are added bit by bit, every
linear map respects the sum, and each transformation has its inverse. -/

namespace Sys2Proof.Machine

/-! ### Sums of byte strings -/

section
variable {n : Nat} (a b c : Bytes n)

@[simp] theorem getElem_xorBytes (i : Nat) (h : i < n) : (xorBytes a b)[i] = a[i] ^^^ b[i] := by simp [xorBytes]
@[simp] theorem getElem_zeroBytes (i : Nat) (h : i < n) : (zeroBytes n)[i] = 0#8 := by simp [zeroBytes]

theorem xorBytes_comm : xorBytes a b = xorBytes b a := by ext1 i h; simp [BitVec.xor_comm]
theorem xorBytes_assoc : xorBytes (xorBytes a b) c = xorBytes a (xorBytes b c) := by ext1 i h; simp [BitVec.xor_assoc]
@[simp] theorem xorBytes_zero : xorBytes a (zeroBytes n) = a := by ext1 i h; simp
@[simp] theorem xorBytes_cancel : xorBytes (xorBytes a b) b = a := by ext1 i h; simp
theorem xorBytes_xorBytes_right : xorBytes (xorBytes a c) (xorBytes b c) = xorBytes a b := by
  rw [xorBytes_comm b, ← xorBytes_assoc, xorBytes_cancel]

end

/-! ### The field -/

/-- One bit of the product adds its multiple of the first factor. -/
theorem gmul_step_xor (b b' r r' a : Byte) (i : Nat) :
    (if (b ^^^ b').getLsbD i then r ^^^ r' ^^^ a else r ^^^ r') =
      (if b.getLsbD i then r ^^^ a else r) ^^^ (if b'.getLsbD i then r' ^^^ a else r') := by
  rw [BitVec.getLsbD_xor]
  cases b.getLsbD i <;> cases b'.getLsbD i
  case true.true =>
    calc r ^^^ r' = r ^^^ r' ^^^ (a ^^^ a) := by simp
      _ = (r ^^^ a) ^^^ (r' ^^^ a) := by ac_rfl
  all_goals simp only [Bool.xor_true, Bool.xor_false, Bool.not_false, if_true, if_false,
    Bool.false_eq_true] <;> ac_rfl

/-- The product is additive in its second factor, bit by bit. -/
theorem gmul_xor (a b b' : Byte) : gmul a (b ^^^ b') = gmul a b ^^^ gmul a b' := by
  have hfold (l : List Nat) (a r r' : Byte) :
      (l.foldl (fun ra i => (if (b ^^^ b').getLsbD i then ra.1 ^^^ ra.2 else ra.1, xtime ra.2)) (r ^^^ r', a)).1 =
      (l.foldl (fun ra i => (if b.getLsbD i then ra.1 ^^^ ra.2 else ra.1, xtime ra.2)) (r, a)).1 ^^^
      (l.foldl (fun ra i => (if b'.getLsbD i then ra.1 ^^^ ra.2 else ra.1, xtime ra.2)) (r', a)).1 := by
    induction l generalizing a r r' with
    | nil => rfl
    | cons i l ih => simp only [List.foldl_cons, gmul_step_xor, ih]
  exact hfold (List.range 8) a 0#8 0#8

@[simp] theorem gmul_one : ∀ x : Byte, gmul 1#8 x = x := by decide +kernel

/-! ### Rows, columns and bytes -/

section
variable (s t : Block)

@[simp] theorem getElem_subBytes (i : Nat) (h : i < 16) : (subBytes s)[i] = sbox s[i] := by simp [subBytes]
@[simp] theorem getElem_invSubBytes (i : Nat) (h : i < 16) : (invSubBytes s)[i] = invSbox s[i] := by simp [invSubBytes]
@[simp] theorem getElem_shiftRows (i : Nat) (h : i < 16) :
    (shiftRows s)[i] = s[i % 4 + 4 * ((i / 4 + i % 4) % 4)] := by simp [shiftRows]
@[simp] theorem getElem_invShiftRows (i : Nat) (h : i < 16) :
    (invShiftRows s)[i] = s[i % 4 + 4 * ((i / 4 + 4 - i % 4) % 4)] := by simp [invShiftRows]
@[simp] theorem getElem_column (c : Fin 4) (r : Nat) (h : r < 4) : (column s c)[r] = s[4 * c.val + r] := by
  simp [column]
@[simp] theorem getElem_mapColumns (f : Bytes 4 → Bytes 4) (i : Nat) (h : i < 16) :
    (mapColumns f s)[i] = (f (column s ⟨i / 4, by omega⟩))[i % 4] := by simp [mapColumns]

theorem invSubBytes_subBytes : invSubBytes (subBytes s) = s := by ext1 i h; simp [invSbox_sbox]
theorem subBytes_invSubBytes : subBytes (invSubBytes s) = s := by ext1 i h; simp [sbox_invSbox]

theorem invShiftRows_shiftRows : invShiftRows (shiftRows s) = s := by
  ext1 i h
  simp only [getElem_invShiftRows, getElem_shiftRows]
  congr 1
  omega

theorem shiftRows_invShiftRows : shiftRows (invShiftRows s) = s := by
  ext1 i h
  simp only [getElem_invShiftRows, getElem_shiftRows]
  congr 1
  omega

theorem shiftRows_xorBytes : shiftRows (xorBytes s t) = xorBytes (shiftRows s) (shiftRows t) := by ext1 i h; simp

theorem column_mapColumns (f : Bytes 4 → Bytes 4) (c : Fin 4) : column (mapColumns f s) c = f (column s c) := by
  ext1 i h
  have hdiv : (4 * c.val + i) / 4 = c.val := by omega
  have hmod : (4 * c.val + i) % 4 = i := by omega
  simp [hdiv, hmod]

theorem column_xorBytes (c : Fin 4) : column (xorBytes s t) c = xorBytes (column s c) (column t c) := by ext1 i h; simp

/-- A map of the columns that has an inverse has it on blocks. -/
theorem mapColumns_leftInverse {f g : Bytes 4 → Bytes 4} (h : ∀ a, g (f a) = a) :
    mapColumns g (mapColumns f s) = s := by
  ext1 i hi
  simp only [getElem_mapColumns, column_mapColumns, h, getElem_column]
  congr 1
  omega

/-- A map of the columns that respects sums does so on blocks. -/
theorem mapColumns_xorBytes {f : Bytes 4 → Bytes 4} (h : ∀ a b, f (xorBytes a b) = xorBytes (f a) (f b)) :
    mapColumns f (xorBytes s t) = xorBytes (mapColumns f s) (mapColumns f t) := by
  ext1 i hi
  simp [column_xorBytes, h]

end

/-! ### `MixColumns` -/

@[simp] theorem getElem_mixWith (c0 c1 c2 c3 : Byte) (a : Bytes 4) (i : Nat) (h : i < 4) :
    (mixWith c0 c1 c2 c3 a)[i] =
      gmul c0 a[i] ^^^ gmul c1 a[(i + 1) % 4] ^^^ gmul c2 a[(i + 2) % 4] ^^^ gmul c3 a[(i + 3) % 4] := by
  simp [mixWith]

theorem mixWith_xorBytes (c0 c1 c2 c3 : Byte) (a b : Bytes 4) :
    mixWith c0 c1 c2 c3 (xorBytes a b) = xorBytes (mixWith c0 c1 c2 c3 a) (mixWith c0 c1 c2 c3 b) := by
  ext1 i h
  simp only [getElem_mixWith, getElem_xorBytes, gmul_xor]
  ac_rfl

/-- Every byte is the sum of its bits. -/
theorem byte_eq_sum_bits : ∀ x : Byte,
    x = (List.range 8).foldl (fun r i => if x.getLsbD i then r ^^^ 1#8 <<< i else r) 0#8 := by decide +kernel

/-- Two additive maps that agree on the eight single bits agree. -/
theorem eq_of_additive {f g : Byte → Byte} (hf : ∀ a b, f (a ^^^ b) = f a ^^^ f b)
    (hg : ∀ a b, g (a ^^^ b) = g a ^^^ g b)
    (hbits : ∀ i ∈ List.range 8, f (1#8 <<< i) = g (1#8 <<< i)) (x : Byte) : f x = g x := by
  have hzero {f : Byte → Byte} (hf : ∀ a b, f (a ^^^ b) = f a ^^^ f b) : f 0#8 = 0#8 := by simpa using hf 0#8 0#8
  have hfold (l : List Nat) (hl : ∀ i ∈ l, f (1#8 <<< i) = g (1#8 <<< i)) (r : Byte) (hr : f r = g r) :
      f (l.foldl (fun r i => if x.getLsbD i then r ^^^ 1#8 <<< i else r) r) =
      g (l.foldl (fun r i => if x.getLsbD i then r ^^^ 1#8 <<< i else r) r) := by
    induction l generalizing r with
    | nil => exact hr
    | cons i l ih =>
      refine ih (fun j hj => hl j (List.mem_cons_of_mem i hj)) _ ?_
      dsimp only
      split
      · rw [hf, hg, hr, hl i List.mem_cons_self]
      · exact hr
  rw [byte_eq_sum_bits x]
  exact hfold _ hbits _ ((hzero hf).trans (hzero hg).symm)

/-- A place of the product of two circulant matrices: a map of one byte that is added up from four. -/
def circulantProduct (c0 c1 c2 c3 e0 e1 e2 e3 x : Byte) : Byte :=
  gmul c0 (gmul e0 x) ^^^ gmul c1 (gmul e1 x) ^^^ gmul c2 (gmul e2 x) ^^^ gmul c3 (gmul e3 x)

theorem circulantProduct_xor (c0 c1 c2 c3 e0 e1 e2 e3 a b : Byte) :
    circulantProduct c0 c1 c2 c3 e0 e1 e2 e3 (a ^^^ b) =
      circulantProduct c0 c1 c2 c3 e0 e1 e2 e3 a ^^^ circulantProduct c0 c1 c2 c3 e0 e1 e2 e3 b := by
  simp only [circulantProduct, gmul_xor]
  ac_rfl

/-- Two circulant matrices are inverse to each other when their product is the unit matrix: `h0` is its diagonal, `h1` to
`h3` are its other places; by additivity the single bits decide. -/
theorem mixWith_leftInverse {c0 c1 c2 c3 d0 d1 d2 d3 : Byte}
    (h0 : ∀ i ∈ List.range 8, circulantProduct c0 c1 c2 c3 d0 d3 d2 d1 (1#8 <<< i) = 1#8 <<< i)
    (h1 : ∀ i ∈ List.range 8, circulantProduct c0 c1 c2 c3 d1 d0 d3 d2 (1#8 <<< i) = 0#8)
    (h2 : ∀ i ∈ List.range 8, circulantProduct c0 c1 c2 c3 d2 d1 d0 d3 (1#8 <<< i) = 0#8)
    (h3 : ∀ i ∈ List.range 8, circulantProduct c0 c1 c2 c3 d3 d2 d1 d0 (1#8 <<< i) = 0#8)
    (a : Bytes 4) : mixWith c0 c1 c2 c3 (mixWith d0 d1 d2 d3 a) = a := by
  have hadd := circulantProduct_xor c0 c1 c2 c3
  have hid (w : Byte) := eq_of_additive (g := fun x => x) (hadd _ _ _ _) (fun _ _ => rfl) h0 w
  have hno {e0 e1 e2 e3 : Byte}
      (h : ∀ i ∈ List.range 8, circulantProduct c0 c1 c2 c3 e0 e1 e2 e3 (1#8 <<< i) = 0#8) (x : Byte) :=
    eq_of_additive (g := fun _ => 0#8) (hadd _ _ _ _) (fun _ _ => rfl) h x
  have hsum (w x y z : Byte) :
      gmul c0 (gmul d0 w ^^^ gmul d1 x ^^^ gmul d2 y ^^^ gmul d3 z) ^^^
      gmul c1 (gmul d0 x ^^^ gmul d1 y ^^^ gmul d2 z ^^^ gmul d3 w) ^^^
      gmul c2 (gmul d0 y ^^^ gmul d1 z ^^^ gmul d2 w ^^^ gmul d3 x) ^^^
      gmul c3 (gmul d0 z ^^^ gmul d1 w ^^^ gmul d2 x ^^^ gmul d3 y) = w := by
    calc
      _ = circulantProduct c0 c1 c2 c3 d0 d3 d2 d1 w ^^^ circulantProduct c0 c1 c2 c3 d1 d0 d3 d2 x ^^^
          circulantProduct c0 c1 c2 c3 d2 d1 d0 d3 y ^^^ circulantProduct c0 c1 c2 c3 d3 d2 d1 d0 z := by
        simp only [circulantProduct, gmul_xor]
        ac_rfl
      _ = w := by simp [hid, hno h1, hno h2, hno h3]
  ext1 i h
  interval_cases i <;> simpa only [getElem_mixWith] using hsum _ _ _ _

theorem invMixColumns_mixColumns (s : Block) : invMixColumns (mixColumns s) = s :=
  mapColumns_leftInverse s (mixWith_leftInverse (by decide +kernel) (by decide +kernel) (by decide +kernel)
    (by decide +kernel))

theorem mixColumns_invMixColumns (s : Block) : mixColumns (invMixColumns s) = s :=
  mapColumns_leftInverse s (mixWith_leftInverse (by decide +kernel) (by decide +kernel) (by decide +kernel)
    (by decide +kernel))

theorem mixColumns_xorBytes (s t : Block) : mixColumns (xorBytes s t) = xorBytes (mixColumns s) (mixColumns t) :=
  mapColumns_xorBytes s t (mixWith_xorBytes 2 3 1 1)

theorem invMixColumns_xorBytes (s t : Block) :
    invMixColumns (xorBytes s t) = xorBytes (invMixColumns s) (invMixColumns t) :=
  mapColumns_xorBytes s t (mixWith_xorBytes 14 11 13 9)

/-! ### The rounds as a fold over the round keys between the first and the last -/

/-- The part of a round before `MixColumns` (rule R162). -/
def subShift (s : Block) : Block := shiftRows (subBytes s)

/-- Its inverse (rule R165). -/
def invSubShift (s : Block) : Block := invSubBytes (invShiftRows s)

theorem invSubShift_subShift (s : Block) : invSubShift (subShift s) = s := by
  rw [invSubShift, subShift, invShiftRows_shiftRows, invSubBytes_subBytes]

theorem subShift_invSubShift (s : Block) : subShift (invSubShift s) = s := by
  rw [invSubShift, subShift, subBytes_invSubBytes, shiftRows_invShiftRows]

/-- A middle round of the cipher (rule R162). -/
def encRound (s k : Block) : Block := xorBytes (mixColumns (subShift s)) k

/-- A middle round of the inverse cipher (rule R165). -/
def decRound (s k : Block) : Block := invMixColumns (xorBytes (invSubShift s) k)

theorem aesRounds_append (mids : List Block) (last s : Block) :
    aesRounds (mids ++ [last]) s = xorBytes (subShift (mids.foldl encRound s)) last := by
  induction mids generalizing s with
  | nil => rfl
  | cons k ks ih =>
    rw [List.foldl_cons, ← ih]
    cases ks <;> rfl

theorem aesInvRounds_append (mids : List Block) (last s : Block) :
    aesInvRounds (mids ++ [last]) s = xorBytes (invSubShift (mids.foldl decRound s)) last := by
  induction mids generalizing s with
  | nil => rfl
  | cons k ks ih =>
    rw [List.foldl_cons, ← ih]
    cases ks <;> rfl

/-- The cipher on a schedule with a first and a last round key. -/
theorem aesCipher_eq (k last : Block) (mids : List Block) (p : Block) :
    aesCipher (k :: (mids ++ [last])) p = xorBytes (subShift (mids.foldl encRound (xorBytes p k))) last :=
  aesRounds_append mids last _

/-- The inverse cipher on a schedule with a first and a last round key. -/
theorem aesInvCipher_eq (k last : Block) (mids : List Block) (c : Block) :
    aesInvCipher (k :: (mids ++ [last])) c =
      xorBytes (invSubShift (mids.reverse.foldl decRound (xorBytes c last))) k := by
  have hrev : (k :: (mids ++ [last])).reverse = last :: (mids.reverse ++ [k]) := by simp
  rw [aesInvCipher, hrev]
  exact aesInvRounds_append mids.reverse k _

theorem foldl_decRound_encRound (mids : List Block) (s : Block) :
    mids.reverse.foldl decRound (subShift (mids.foldl encRound s)) = subShift s := by
  induction mids generalizing s with
  | nil => rfl
  | cons k ks ih =>
    rw [List.foldl_cons, List.reverse_cons, List.foldl_append, ih, List.foldl_cons, List.foldl_nil, decRound,
      invSubShift_subShift, encRound, xorBytes_cancel, invMixColumns_mixColumns]

theorem foldl_encRound_decRound (mids : List Block) (s : Block) :
    mids.foldl encRound (invSubShift (mids.reverse.foldl decRound s)) = invSubShift s := by
  induction mids generalizing s with
  | nil => rfl
  | cons k ks ih =>
    simp only [List.reverse_cons, List.foldl_append, List.foldl_cons, List.foldl_nil]
    rw [encRound, decRound, subShift_invSubShift, mixColumns_invMixColumns, xorBytes_cancel, ih]

/-- A schedule has a first and a last round key, and others between them. -/
theorem exists_schedule (nk : Nat) (key : Bytes (4 * nk)) :
    ∃ k mids last, aesKeyExpansion nk key = k :: (mids ++ [last]) := by
  have hlen : (aesKeyExpansion nk key).length = nk + 7 := by simp [aesKeyExpansion]
  match h : aesKeyExpansion nk key with
  | [] => simp [h] at hlen
  | k :: ks =>
    have hne : ks ≠ [] := by
      rintro rfl
      simp [h] at hlen
    exact ⟨k, ks.dropLast, ks.getLast hne, by rw [List.dropLast_append_getLast hne]⟩

theorem aesDecrypt_aesEncrypt (nk : Nat) (key : Bytes (4 * nk)) (p : Block) :
    aesDecrypt nk key (aesEncrypt nk key p) = p := by
  obtain ⟨k, mids, last, hrk⟩ := exists_schedule nk key
  rw [aesDecrypt, aesEncrypt, hrk, aesCipher_eq, aesInvCipher_eq, xorBytes_cancel, foldl_decRound_encRound,
    invSubShift_subShift, xorBytes_cancel]

theorem aesEncrypt_aesDecrypt (nk : Nat) (key : Bytes (4 * nk)) (c : Block) :
    aesEncrypt nk key (aesDecrypt nk key c) = c := by
  obtain ⟨k, mids, last, hrk⟩ := exists_schedule nk key
  rw [aesDecrypt, aesEncrypt, hrk, aesCipher_eq, aesInvCipher_eq, xorBytes_cancel, foldl_encRound_decRound,
    subShift_invSubShift, xorBytes_cancel]

/-- Settles O28. -/
theorem aesRoundTrip : Obligations.AesRoundTrip :=
  ⟨fun K P => ⟨aesDecrypt_aesEncrypt 4 K P, aesEncrypt_aesDecrypt 4 K P⟩,
    fun K P => ⟨aesDecrypt_aesEncrypt 8 K P, aesEncrypt_aesDecrypt 8 K P⟩⟩

end Sys2Proof.Machine
end

section
/-! The other forms of AES (41_aes_functions.md rules R167 to R171, 43_aes_countermeasures.md rules R209 to R224): the
table-driven form, the masked datapaths and the delayed and reordered ones compute the textbook values. -/

namespace Sys2Proof.Machine

/-! ### Words of four bytes -/

theorem getLsbD_packWord (b0 b1 b2 b3 : Byte) (i : Nat) :
    (packWord b0 b1 b2 b3).getLsbD i =
      if i < 8 then b3.getLsbD i
      else if i < 16 then b2.getLsbD (i - 8)
      else if i < 24 then b1.getLsbD (i - 16) else b0.getLsbD (i - 24) := by
  change (b0 ++ b1 ++ b2 ++ b3 : BitVec (8 + 8 + 8 + 8)).getLsbD i = _
  simp only [BitVec.getLsbD_append, Nat.sub_sub]
  have h1 : i - 8 < 8 ↔ i < 16 := by omega
  have h2 : i - (8 + 8) < 8 ↔ i < 24 := by omega
  simp only [h1, h2]

theorem packWord_xor (a0 a1 a2 a3 b0 b1 b2 b3 : Byte) :
    packWord a0 a1 a2 a3 ^^^ packWord b0 b1 b2 b3 =
      packWord (a0 ^^^ b0) (a1 ^^^ b1) (a2 ^^^ b2) (a3 ^^^ b3) := by
  apply BitVec.eq_of_getLsbD_eq
  intro i _
  simp only [BitVec.getLsbD_xor, getLsbD_packWord]
  split_ifs <;> rfl

section
variable (b0 b1 b2 b3 : Byte)

@[simp] theorem wordByte_packWord_zero : wordByte (packWord b0 b1 b2 b3) 0 = b0 := by
  apply BitVec.eq_of_getLsbD_eq
  intro i hi
  simp only [wordByte, BitVec.getLsbD_extractLsb', getLsbD_packWord]
  interval_cases i <;> simp

@[simp] theorem wordByte_packWord_one : wordByte (packWord b0 b1 b2 b3) 1 = b1 := by
  apply BitVec.eq_of_getLsbD_eq
  intro i hi
  simp only [wordByte, BitVec.getLsbD_extractLsb', getLsbD_packWord]
  interval_cases i <;> simp

@[simp] theorem wordByte_packWord_two : wordByte (packWord b0 b1 b2 b3) 2 = b2 := by
  apply BitVec.eq_of_getLsbD_eq
  intro i hi
  simp only [wordByte, BitVec.getLsbD_extractLsb', getLsbD_packWord]
  interval_cases i <;> simp

@[simp] theorem wordByte_packWord_three : wordByte (packWord b0 b1 b2 b3) 3 = b3 := by
  apply BitVec.eq_of_getLsbD_eq
  intro i hi
  simp only [wordByte, BitVec.getLsbD_extractLsb', getLsbD_packWord]
  interval_cases i <;> simp

/-- A rotation by a byte moves the last byte to the front (rule R167). -/
theorem ror32_eight : ror32 (packWord b0 b1 b2 b3) 8 = packWord b3 b0 b1 b2 := by
  apply BitVec.eq_of_getLsbD_eq
  intro i hi
  simp only [ror32, BitVec.getLsbD_or, BitVec.getLsbD_ushiftRight, BitVec.getLsbD_shiftLeft, getLsbD_packWord]
  interval_cases i <;> simp

theorem ror32_sixteen : ror32 (packWord b0 b1 b2 b3) 16 = packWord b2 b3 b0 b1 := by
  apply BitVec.eq_of_getLsbD_eq
  intro i hi
  simp only [ror32, BitVec.getLsbD_or, BitVec.getLsbD_ushiftRight, BitVec.getLsbD_shiftLeft, getLsbD_packWord]
  interval_cases i <;> simp

theorem ror32_twentyFour : ror32 (packWord b0 b1 b2 b3) 24 = packWord b1 b2 b3 b0 := by
  apply BitVec.eq_of_getLsbD_eq
  intro i hi
  simp only [ror32, BitVec.getLsbD_or, BitVec.getLsbD_ushiftRight, BitVec.getLsbD_shiftLeft, getLsbD_packWord]
  interval_cases i <;> simp

end

/-- A word is its four bytes. -/
theorem packWord_wordByte (w : Word32) : packWord (wordByte w 0) (wordByte w 1) (wordByte w 2) (wordByte w 3) = w := by
  apply BitVec.eq_of_getLsbD_eq
  intro i hi
  simp only [getLsbD_packWord, wordByte, BitVec.getLsbD_extractLsb']
  interval_cases i <;> simp

@[simp] theorem getElem_blockWords (s : Block) (c : Nat) (h : c < 4) :
    (blockWords s)[c] = packWord s[4 * c] s[4 * c + 1] s[4 * c + 2] s[4 * c + 3] := by simp [blockWords]

theorem wordByte_blockWords (s : Block) (c j : Nat) (hc : c < 4) (hj : j < 4) :
    wordByte (blockWords s)[c] j = s[4 * c + j] := by
  rw [getElem_blockWords]
  interval_cases j <;> simp

theorem wordsBlock_blockWords (s : Block) : wordsBlock (blockWords s) = s := by
  ext1 i h
  have hidx : 4 * (i / 4) + i % 4 = i := by omega
  simp only [wordsBlock, Vector.getElem_ofFn, wordByte_blockWords s (i / 4) (i % 4) (by omega) (by omega), hidx]

theorem xorWords_blockWords (s t : Block) : xorWords (blockWords s) (blockWords t) = blockWords (xorBytes s t) := by
  ext1 c h
  simp [xorWords, packWord_xor]

/-! ### The table-driven form -/

/-- The word of a table: what a byte of the first row adds to its column under the circulant matrix of `mixWith`. -/
def circulantWord (c0 c1 c2 c3 y : Byte) : Word32 := packWord (gmul c0 y) (gmul c3 y) (gmul c2 y) (gmul c1 y)

/-- Four rotated table words add up to the product with the matrix. -/
theorem circulantWord_sum (c0 c1 c2 c3 : Byte) (a : Bytes 4) :
    circulantWord c0 c1 c2 c3 a[0] ^^^ ror32 (circulantWord c0 c1 c2 c3 a[1]) 8 ^^^
      ror32 (circulantWord c0 c1 c2 c3 a[2]) 16 ^^^ ror32 (circulantWord c0 c1 c2 c3 a[3]) 24 =
    packWord (mixWith c0 c1 c2 c3 a)[0] (mixWith c0 c1 c2 c3 a)[1] (mixWith c0 c1 c2 c3 a)[2]
      (mixWith c0 c1 c2 c3 a)[3] := by
  simp only [circulantWord, ror32_eight, ror32_sixteen, ror32_twentyFour, packWord_xor, getElem_mixWith]
  congr 1 <;> ac_rfl

theorem te0_eq (x : Byte) : te0 x = circulantWord 2 3 1 1 (sbox x) := by simp [te0, circulantWord]
theorem td0_eq (x : Byte) : td0 x = circulantWord 14 11 13 9 (invSbox x) := rfl

section
variable {tab : Byte → Word32} {sub : Byte → Byte} {look : Vector Word32 4 → Fin 4 → Nat → Byte} {c0 c1 c2 c3 : Byte}

/-- A middle round by table lookups is a product of the columns that the lookups read. -/
theorem tableRound_blockWords (htab : ∀ x, tab x = circulantWord c0 c1 c2 c3 (sub x)) {s u : Block}
    (hlook : ∀ (c : Fin 4) (j : Nat) (hj : j < 4), sub (look (blockWords s) c j) = u[4 * c.val + j]) :
    tableRound tab look (blockWords s) = blockWords (mapColumns (mixWith c0 c1 c2 c3) u) := by
  ext1 c h
  have hcol (r : Nat) (hr : r < 4) : u[4 * c + r] = (column u ⟨c, h⟩)[r] := by simp
  have hmap (r : Nat) (hr : r < 4) : (mapColumns (mixWith c0 c1 c2 c3) u)[4 * c + r] =
      (mixWith c0 c1 c2 c3 (column u ⟨c, h⟩))[r] := by
    rw [← column_mapColumns u (mixWith c0 c1 c2 c3), getElem_column]
  have hmap0 := hmap 0 (by omega)
  simp only [Nat.add_zero] at hmap0
  rw [getElem_blockWords, hmap0, hmap 1 (by omega), hmap 2 (by omega), hmap 3 (by omega), ← circulantWord_sum]
  simp only [tableRound, Vector.getElem_ofFn, htab]
  rw [hlook ⟨c, h⟩ 0 (by omega), hlook ⟨c, h⟩ 1 (by omega), hlook ⟨c, h⟩ 2 (by omega), hlook ⟨c, h⟩ 3 (by omega),
    hcol 0 (by omega), hcol 1 (by omega), hcol 2 (by omega), hcol 3 (by omega)]

theorem tableLast_blockWords {s u : Block}
    (hlook : ∀ (c : Fin 4) (j : Nat) (hj : j < 4), sub (look (blockWords s) c j) = u[4 * c.val + j]) :
    tableLast sub look (blockWords s) = blockWords u := by
  ext1 c h
  simp only [tableLast, Vector.getElem_ofFn, getElem_blockWords]
  rw [hlook ⟨c, h⟩ 0 (by omega), hlook ⟨c, h⟩ 1 (by omega), hlook ⟨c, h⟩ 2 (by omega), hlook ⟨c, h⟩ 3 (by omega)]
  simp only [Nat.add_zero]

theorem tableRounds_cons_append (k last : Vector Word32 4) (ks : List (Vector Word32 4)) (t : Vector Word32 4) :
    tableRounds tab sub look (k :: (ks ++ [last])) t =
      tableRounds tab sub look (ks ++ [last]) (xorWords (tableRound tab look t) k) := by
  cases ks <;> rfl

/-- The rounds on words, where each is the round `mix ∘ bytes` on blocks. -/
theorem tableRounds_blockWords {bytes mix : Block → Block}
    (hround : ∀ s, tableRound tab look (blockWords s) = blockWords (mix (bytes s)))
    (hlast : ∀ s, tableLast sub look (blockWords s) = blockWords (bytes s)) (mids : List Block) (last s : Block) :
    tableRounds tab sub look (mids.map blockWords ++ [blockWords last]) (blockWords s) =
      blockWords (xorBytes (bytes (mids.foldl (fun s k => xorBytes (mix (bytes s)) k) s)) last) := by
  induction mids generalizing s with
  | nil => rw [List.map_nil, List.nil_append, tableRounds, hlast, xorWords_blockWords, List.foldl_nil]
  | cons k ks ih =>
    rw [List.map_cons, List.cons_append, tableRounds_cons_append, hround, xorWords_blockWords, ih, List.foldl_cons]

end

theorem sbox_encLookup (s : Block) (c : Fin 4) (j : Nat) (hj : j < 4) :
    sbox (encLookup (blockWords s) c j) = (subShift s)[4 * c.val + j] := by
  rw [encLookup, wordByte_blockWords s _ j (by omega) hj]
  simp only [subShift, getElem_shiftRows, getElem_subBytes]
  congr 2
  omega

theorem invSbox_decLookup (s : Block) (c : Fin 4) (j : Nat) (hj : j < 4) :
    invSbox (decLookup (blockWords s) c j) = (invSubShift s)[4 * c.val + j] := by
  rw [decLookup, wordByte_blockWords s _ j (by omega) hj]
  simp only [invSubShift, getElem_invShiftRows, getElem_invSubBytes]
  congr 2
  omega

theorem tableRound_enc (s : Block) : tableRound te0 encLookup (blockWords s) = blockWords (mixColumns (subShift s)) :=
  tableRound_blockWords te0_eq (sbox_encLookup s)

theorem tableRound_dec (s : Block) :
    tableRound td0 decLookup (blockWords s) = blockWords (invMixColumns (invSubShift s)) :=
  tableRound_blockWords td0_eq (invSbox_decLookup s)

theorem aesCipherTbl_eq (nk : Nat) (key : Bytes (4 * nk)) (p : Block) :
    aesCipherTbl nk key p = aesEncrypt nk key p := by
  obtain ⟨k, mids, last, hrk⟩ := exists_schedule nk key
  rw [aesEncrypt, hrk, aesCipher_eq, aesCipherTbl, hrk, List.map_cons, List.map_append, List.map_cons, List.map_nil]
  dsimp only
  rw [xorWords_blockWords, tableRounds_blockWords tableRound_enc fun s => tableLast_blockWords (sbox_encLookup s),
    wordsBlock_blockWords]
  rfl

theorem decScheduleTail_append (mids : List Block) (last : Block) :
    decScheduleTail (mids ++ [last]) = mids.map invMixColumns ++ [last] := by
  induction mids with
  | nil => rfl
  | cons k ks ih =>
    simp only [List.map_cons, List.cons_append, ← ih]
    cases ks <;> rfl

/-- `InvMixColumns` moved from the state to the round key (rule R169). -/
theorem decRound_eq (s k : Block) : decRound s k = xorBytes (invMixColumns (invSubShift s)) (invMixColumns k) :=
  invMixColumns_xorBytes _ _

theorem aesInvCipherTbl_eq (nk : Nat) (key : Bytes (4 * nk)) (c : Block) :
    aesInvCipherTbl nk key c = aesDecrypt nk key c := by
  obtain ⟨k, mids, last, hrk⟩ := exists_schedule nk key
  have hrev : ((decSchedule (k :: (mids ++ [last]))).map blockWords).reverse =
      blockWords last :: ((mids.map invMixColumns).reverse.map blockWords ++ [blockWords k]) := by
    simp [decSchedule, decScheduleTail_append]
  rw [aesDecrypt, hrk, aesInvCipher_eq, aesInvCipherTbl, hrk, hrev]
  dsimp only
  rw [xorWords_blockWords, tableRounds_blockWords tableRound_dec fun s => tableLast_blockWords (invSbox_decLookup s),
    wordsBlock_blockWords, ← List.map_reverse, List.foldl_map]
  simp only [← decRound_eq]

/-- Settles O29. -/
theorem aesTablesAgree : Obligations.AesTablesAgree :=
  ⟨fun K B => ⟨aesCipherTbl_eq 4 K B, aesInvCipherTbl_eq 4 K B⟩,
    fun K B => ⟨aesCipherTbl_eq 8 K B, aesInvCipherTbl_eq 8 K B⟩⟩

/-! ### The masked datapaths -/

theorem subMasked_maskedSbox (m m' : Byte) (s : Block) :
    subMasked (maskedSbox m m') (xorBytes s (constBlock m)) = xorBytes (subBytes s) (constBlock m') := by
  have hentry (x : Byte) : (maskedSbox m m')[(x ^^^ m).toNat]'((x ^^^ m).isLt) = sbox x ^^^ m' := by
    simp only [maskedSbox, Vector.getElem_ofFn, BitVec.ofNat_toNat, BitVec.setWidth_eq]
    rw [BitVec.xor_assoc, BitVec.xor_self, BitVec.xor_zero]
  ext1 i h
  simp only [subMasked, constBlock, Vector.getElem_ofFn, Fin.getElem_fin, getElem_xorBytes, getElem_subBytes, hentry]

theorem shiftRows_constBlock (b : Byte) : shiftRows (constBlock b) = constBlock b := by
  ext1 i h
  simp [constBlock]

theorem column_rowMask (r : Bytes 4) (c : Fin 4) : column (rowMask r) c = r := by
  ext1 i h
  have hmod : (4 * c.val + i) % 4 = i := by omega
  simp [rowMask, hmod]

/-- `MixColumns` turns the row masks `m1` to `m4` into `MixColumn` of them (rule R212). -/
theorem mixColumns_rowMask (r : Bytes 4) : mixColumns (rowMask r) = rowMask (mixColumn r) := by
  ext1 i h
  rw [mixColumns, getElem_mapColumns, column_rowMask]
  simp [rowMask]

/-- The masked substitution leaves the state masked by `M'v`. -/
theorem shiftRows_subMasked (m m' : Byte) (s : Block) :
    shiftRows (subMasked (maskedSbox m m') (xorBytes s (constBlock m))) = xorBytes (subShift s) (constBlock m') := by
  rw [subMasked_maskedSbox, shiftRows_xorBytes, shiftRows_constBlock, subShift]

theorem maskKeys_append (ro mv mv' : Block) (mids : List Block) (last : Block) :
    maskKeys ro mv mv' (mids ++ [last]) =
      mids.map (fun k => xorBytes (xorBytes k ro) mv) ++ [xorBytes last mv'] := by
  induction mids with
  | nil => rfl
  | cons k ks ih =>
    simp only [List.map_cons, List.cons_append, ← ih]
    cases ks <;> rfl

/-- A masked middle round: from a state masked by `Mv` to the next one masked by `Mv`. -/
theorem mtRound_eq (q : MtPrep) (masks : MtMasks) (hsm : q.sm = maskedSbox masks.m masks.m')
    (hri : q.ri = rowMask masks.r) (hmv' : q.mv' = constBlock masks.m') (s k : Block) :
    xorBytes (mixColumns (xorBytes (xorBytes (shiftRows (subMasked q.sm (xorBytes s (constBlock masks.m)))) q.mv') q.ri))
        (xorBytes (xorBytes k (rowMask (mixColumn masks.r))) (constBlock masks.m)) =
      xorBytes (encRound s k) (constBlock masks.m) := by
  rw [hsm, hri, hmv', shiftRows_subMasked, xorBytes_cancel, mixColumns_xorBytes, mixColumns_rowMask, encRound]
  rw [← xorBytes_assoc, xorBytes_xorBytes_right]

theorem mtRounds_cons_append (q : MtPrep) (k : Block) (ks : List Block) (last s : Block) :
    mtRounds q (k :: (ks ++ [last])) s =
      mtRounds q (ks ++ [last])
        (xorBytes (mixColumns (xorBytes (xorBytes (shiftRows (subMasked q.sm s)) q.mv') q.ri)) k) := by
  cases ks <;> rfl

/-- The masked rounds, from a state masked by `Mv`: the mask `M'v` of the last round meets that of its round key. -/
theorem mtRounds_eq (q : MtPrep) (masks : MtMasks) (hsm : q.sm = maskedSbox masks.m masks.m')
    (hri : q.ri = rowMask masks.r) (hmv' : q.mv' = constBlock masks.m') (mids : List Block) (last s : Block) :
    mtRounds q (maskKeys (rowMask (mixColumn masks.r)) (constBlock masks.m) q.mv' (mids ++ [last]))
        (xorBytes s (constBlock masks.m)) =
      xorBytes (subShift (mids.foldl encRound s)) last := by
  rw [maskKeys_append]
  induction mids generalizing s with
  | nil =>
    rw [List.map_nil, List.nil_append, mtRounds, List.foldl_nil, hsm, hmv', shiftRows_subMasked,
      xorBytes_xorBytes_right]
  | cons k ks ih =>
    rw [List.map_cons, List.cons_append, mtRounds_cons_append, mtRound_eq q masks hsm hri hmv', ih, List.foldl_cons]

/-- The unmasking theorem of `MT` (rule R214). -/
theorem mtEncrypt_mtPrepare (nk : Nat) (key : Bytes (4 * nk)) (masks : MtMasks) (p : Block) :
    mtEncrypt (mtPrepare nk key masks) p = aesEncrypt nk key p := by
  obtain ⟨k, mids, last, hrk⟩ := exists_schedule nk key
  have hsm : (mtPrepare nk key masks).sm = maskedSbox masks.m masks.m' := rfl
  have hri : (mtPrepare nk key masks).ri = rowMask masks.r := rfl
  have hro : (mtPrepare nk key masks).ro = rowMask (mixColumn masks.r) := rfl
  have hmv' : (mtPrepare nk key masks).mv' = constBlock masks.m' := rfl
  have hmrk : (mtPrepare nk key masks).mrk =
      xorBytes (xorBytes k (rowMask (mixColumn masks.r))) (constBlock masks.m) ::
        maskKeys (rowMask (mixColumn masks.r)) (constBlock masks.m) (constBlock masks.m') (mids ++ [last]) := by
    change maskKeys _ _ _ (aesKeyExpansion nk key) = _
    rw [hrk, ← List.cons_append, maskKeys_append, maskKeys_append, List.map_cons, List.cons_append]
  generalize mtPrepare nk key masks = q at hsm hri hro hmv' hmrk ⊢
  rw [aesEncrypt, hrk, aesCipher_eq, mtEncrypt, hmrk, ← mtRounds_eq q masks hsm hri hmv', hro, ← hmv']
  dsimp only
  rw [← xorBytes_assoc, xorBytes_xorBytes_right]

/-- Settles O30. -/
theorem maskedThroughUnmasks : Obligations.MaskedThroughUnmasks :=
  ⟨fun K P k => mtEncrypt_mtPrepare 4 K k P, fun K P k => mtEncrypt_mtPrepare 8 K k P⟩

theorem mbRounds_eq (mask : Block) (ks : List Block) (s : Block) : mbRounds mask ks s = aesRounds ks s := by
  induction ks generalizing s with
  | nil => rfl
  | cons k ks ih =>
    cases ks with
    | nil => rw [mbRounds, aesRounds, addRoundKey, ← xorBytes_assoc, xorBytes_cancel]
    | cons k' ks => exact ih _

/-- The unmasking theorem of `MB` (rule R209): the mask of the first round key meets that of the block. -/
theorem aesMaskedBefore_eq (nk : Nat) (key : Bytes (4 * nk)) (p mask : Block) :
    aesMaskedBefore nk key p mask = aesEncrypt nk key p := by
  rw [aesMaskedBefore, aesEncrypt]
  cases aesKeyExpansion nk key with
  | nil => rfl
  | cons k ks =>
    simp only [xorBytes_xorBytes_right, mbRounds_eq, aesCipher, addRoundKey]

/-- Settles O31. -/
theorem maskedBeforeUnmasks : Obligations.MaskedBeforeUnmasks :=
  ⟨fun K P M => aesMaskedBefore_eq 4 K P M, fun K P M => aesMaskedBefore_eq 8 K P M⟩

/-! ### Delays and the order of lookups -/

theorem aesRoundsRd_eq (delay : Nat → Nat) (r : Nat) (ks : List Block) (s : Block) :
    aesRoundsRd delay r ks s = aesRounds ks s := by
  induction ks generalizing r s with
  | nil => rfl
  | cons k ks ih =>
    cases ks with
    | nil => rfl
    | cons k' ks => exact ih _ _

/-- Delays do not show in the value (rule R223). -/
theorem aesCipherRd_eq (delay : Nat → Nat) (rk : List Block) (p : Block) : aesCipherRd delay rk p = aesCipher rk p := by
  cases rk with
  | nil => rfl
  | cons k ks => exact aesRoundsRd_eq delay 1 ks _

/-- Filling the places of a list writes those places and no other. -/
theorem getElem_fillInOrder {α : Type} {n : Nat} (order : List (Fin n)) (f : Fin n → α) (v : Vector α n) (i : Fin n) :
    (fillInOrder order f v)[i] = if i ∈ order then f i else v[i] := by
  induction order generalizing v with
  | nil => rfl
  | cons j js ih =>
    have hstep : fillInOrder (j :: js) f v = fillInOrder js f (v.set j.val (f j)) := rfl
    rw [hstep, ih]
    by_cases hjs : i ∈ js
    · simp [hjs]
    · by_cases hij : i = j
      · subst hij; simp
      · have hne : j.val ≠ i.val := fun h => hij (Fin.ext h.symm)
        simp [hjs, hij, Vector.getElem_set_ne, hne]

/-- Filling every place, in whatever order, gives the vector of the values. -/
theorem fillInOrder_of_perm {α : Type} {n : Nat} {order : List (Fin n)} (h : order.Perm (List.finRange n))
    (f : Fin n → α) (v : Vector α n) : fillInOrder order f v = Vector.ofFn f := by
  ext1 i hi
  have := getElem_fillInOrder order f v ⟨i, hi⟩
  rw [if_pos (h.mem_iff.2 (List.mem_finRange _))] at this
  simpa using this

/-- Every number chooses a permutation, if it may choose as many places as there are. -/
theorem chooseOrder_perm {α : Type} (fuel : Nat) (l : List α) (x : Nat) (h : l.length = fuel) :
    (chooseOrder fuel l x).Perm l := by
  induction fuel generalizing l x with
  | zero =>
    rw [List.length_eq_zero_iff.1 h]
    exact .nil
  | succ fuel ih =>
    have hlt : x % l.length < l.length := Nat.mod_lt _ (by omega)
    rw [chooseOrder, List.getElem?_eq_getElem hlt]
    have hlen : (l.eraseIdx (x % l.length)).length = fuel := by
      rw [List.length_eraseIdx_of_lt hlt]
      omega
    exact ((ih _ _ hlen).cons _).trans (List.getElem_cons_eraseIdx_perm hlt)

theorem drawOrder_perm (n : Nat) (s : State) (k : Nat) : (drawOrder n s k).Perm (List.finRange n) :=
  chooseOrder_perm n _ _ List.length_finRange

theorem subBytesInOrder_eq {order : List (Fin 16)} (h : order.Perm (List.finRange 16)) (s : Block) :
    subBytesInOrder order s = subBytes s := fillInOrder_of_perm h _ _

theorem desOrder_perm : desOrder.Perm (List.finRange 8) := by decide

theorem desRoundIn_eq {order : List (Fin 8)} (h : order.Perm (List.finRange 8)) (r : BitVec 32) (k : BitVec 48) :
    desRoundIn order r k = desRound r k := by
  simp only [desRound, desRoundIn, fillInOrder_of_perm h, fillInOrder_of_perm desOrder_perm]

/-- Settles O32. -/
theorem lookupOrderDoesNotMatter : Obligations.LookupOrderDoesNotMatter :=
  ⟨drawOrder_perm, fun _ b h => subBytesInOrder_eq h b, fun _ r k h => desRoundIn_eq h r k⟩

theorem aesRoundsRs_eq {order : Nat → List (Fin 16)} (h : ∀ r, (order r).Perm (List.finRange 16)) (r : Nat)
    (ks : List Block) (s : Block) : aesRoundsRs order r ks s = aesRounds ks s := by
  induction ks generalizing r s with
  | nil => rfl
  | cons k ks ih =>
    cases ks with
    | nil => rw [aesRoundsRs, subBytesInOrder_eq (h r)]; rfl
    | cons k' ks => rw [aesRoundsRs, subBytesInOrder_eq (h r), ih]; rfl

/-- The order of the lookups does not show in the value (rule R225). -/
theorem aesCipherRs_eq {order : Nat → List (Fin 16)} (h : ∀ r, (order r).Perm (List.finRange 16)) (rk : List Block)
    (p : Block) : aesCipherRs order rk p = aesCipher rk p := by
  cases rk with
  | nil => rfl
  | cons k ks => exact aesRoundsRs_eq h 1 ks _

/-! ### The stored schedule of AES-256 -/

theorem length_aesKeyExpansion (nk : Nat) (key : Bytes (4 * nk)) : (aesKeyExpansion nk key).length = nk + 7 := by
  simp [aesKeyExpansion]

/-- The register holds a schedule of fifteen round keys without loss (rule R200). -/
theorem unpackSchedule_packSchedule {rk : List Block} (h : rk.length = 15) : unpackSchedule (packSchedule rk) = rk := by
  apply List.ext_getElem (by simp [unpackSchedule, h])
  intro r h1 h2
  have hr : r < 15 := by omega
  simp only [unpackSchedule, List.getElem_ofFn]
  ext1 i hi
  have := getElem_packSchedule rk ⟨r, hr⟩ ⟨i, hi⟩
  simpa [List.getElem?_eq_getElem h2] using this

end Sys2Proof.Machine
end

section
/-! The functions of DES, TDES, SM4 and RSA (44_des_tdes.md, 45_sm4.md, 46_rsa.md): the bits that a permutation table
moves, the two Feistel networks and their inverses, and square and multiply as a power. -/

namespace Sys2Proof.Machine

/-! ### Permutation tables -/

/-- The bits put together by a fold, the first the most significant. -/
theorem testBit_foldl_bits (f : Nat → Bool) (l : List Nat) (i : Nat) (h : i < l.length) :
    (l.foldl (fun acc j => 2 * acc + (f j).toNat) 0).testBit (l.length - 1 - i) = f l[i] := by
  induction l using List.reverseRecOn with
  | nil => simp at h
  | append_singleton l a ih =>
    rw [List.foldl_append, List.foldl_cons, List.foldl_nil]
    rw [List.length_append, List.length_singleton] at h ⊢
    by_cases hi : i < l.length
    · have hpos : l.length + 1 - 1 - i = (l.length - 1 - i) + 1 := by omega
      rw [List.getElem_append_left hi, ← ih hi, hpos, Nat.testBit_succ]
      congr 1
      have := Bool.toNat_lt (f a)
      omega
    · have hil : i = l.length := by omega
      subst hil
      rw [List.getElem_concat_length rfl, show l.length + 1 - 1 - l.length = 0 by omega, Nat.testBit_zero]
      cases f a <;> simp

/-- Bit `i` of a permuted string is the bit that the table names (rule R240, counted from 0 here). -/
theorem getMsbD_permute {n m : Nat} {table : List Nat} (x : BitVec n) (hm : table.length = m) {i : Nat} (h : i < m) :
    (permute m table x).getMsbD i = x.getMsbD (table.getD i 0 - 1) := by
  subst hm
  have hlt : table.length - 1 - i < table.length := by omega
  rw [List.getD_eq_getElem _ _ h]
  simp only [permute, BitVec.getMsbD, BitVec.getLsbD_ofNat, h, hlt, decide_true, Bool.true_and]
  exact testBit_foldl_bits (fun j => x.getMsbD (j - 1)) table i h

/-- Two tables that undo each other, place by place, undo each other on strings. -/
theorem permute_permute {n : Nat} {table table' : List Nat} (ht : table.length = n) (ht' : table'.length = n)
    (h : ∀ i ∈ List.range n, table.getD i 0 - 1 < n ∧ table'.getD (table.getD i 0 - 1) 0 - 1 = i) (x : BitVec n) :
    permute n table (permute n table' x) = x := by
  apply BitVec.eq_of_getMsbD_eq
  intro i hi
  obtain ⟨hlt, heq⟩ := h i (List.mem_range.2 hi)
  rw [getMsbD_permute _ ht hi, getMsbD_permute _ ht' hlt, heq]

theorem desIP_desFP (x : BitVec 64) : permute 64 desIP (permute 64 desFP x) = x :=
  permute_permute (n := 64) (table := desIP) (table' := desFP) rfl rfl (by decide +kernel) x

theorem desFP_desIP (x : BitVec 64) : permute 64 desFP (permute 64 desIP x) = x :=
  permute_permute (n := 64) (table := desFP) (table' := desIP) rfl rfl (by decide +kernel) x

/-! ### Strings of 64 bits and of eight bytes -/

theorem getMsbD_bits64 (b : Bytes 8) (i : Nat) (h : i < 64) : (bits64 b).getMsbD i = b[i / 8].getMsbD (i % 8) := by
  change (b[0] ++ b[1] ++ b[2] ++ b[3] ++ b[4] ++ b[5] ++ b[6] ++ b[7] :
    BitVec (8 + 8 + 8 + 8 + 8 + 8 + 8 + 8)).getMsbD i = _
  simp only [BitVec.getMsbD_append]
  interval_cases i <;> simp

theorem getMsbD_bytes64 (x : BitVec 64) (i r : Nat) (hi : i < 8) (hr : r < 8) :
    (bytes64 x)[i].getMsbD r = x.getMsbD (8 * i + r) := by
  have hidx : 56 - 8 * i + (8 - 1 - r) = 64 - 1 - (8 * i + r) := by omega
  have h1 : 8 - 1 - r < 8 := by omega
  have h2 : 8 * i + r < 64 := by omega
  simp only [bytes64, Vector.getElem_ofFn, BitVec.getMsbD, BitVec.getLsbD_extractLsb', hr, h1, h2, hidx, decide_true,
    Bool.true_and]

theorem bits64_bytes64 (x : BitVec 64) : bits64 (bytes64 x) = x := by
  apply BitVec.eq_of_getMsbD_eq
  intro i hi
  rw [getMsbD_bits64 _ i hi, getMsbD_bytes64 x _ _ (by omega) (by omega), Nat.div_add_mod]

theorem bytes64_bits64 (b : Bytes 8) : bytes64 (bits64 b) = b := by
  ext1 i hi
  apply BitVec.eq_of_getMsbD_eq
  intro r hr
  have hdiv : (8 * i + r) / 8 = i := by omega
  have hmod : (8 * i + r) % 8 = r := by omega
  rw [getMsbD_bytes64 _ i r hi hr, getMsbD_bits64 _ _ (by omega)]
  simp only [hdiv, hmod]

/-! ### DES -/

theorem append_halves (x : BitVec 64) : (x.extractLsb' 32 32 ++ x.extractLsb' 0 32 : BitVec 64) = x := by
  apply BitVec.eq_of_getLsbD_eq
  intro i hi
  rw [BitVec.getLsbD_append, BitVec.getLsbD_extractLsb', BitVec.getLsbD_extractLsb']
  split
  · simp_all
  · have h1 : i - 32 < 32 := by omega
    have h2 : 32 + (i - 32) = i := by omega
    simp [h1, h2]

theorem high_append (l r : BitVec 32) : (l ++ r : BitVec 64).extractLsb' 32 32 = l := by
  apply BitVec.eq_of_getLsbD_eq
  intro i hi
  rw [BitVec.getLsbD_extractLsb', BitVec.getLsbD_append]
  simp [hi]

theorem low_append (l r : BitVec 32) : (l ++ r : BitVec 64).extractLsb' 0 32 = r := by
  apply BitVec.eq_of_getLsbD_eq
  intro i hi
  rw [BitVec.getLsbD_extractLsb', BitVec.getLsbD_append]
  simp [hi]

/-- Splitting what was joined gives the halves exchanged (rule R250). -/
theorem desSplit_desJoin (lr : Halves) : desSplit (desJoin lr) = lr.swap := by
  simp only [desSplit, desJoin, bits64_bytes64, desIP_desFP, high_append, low_append]
  rfl

/-- Joining the exchanged halves of a block gives it back. -/
theorem desJoin_swap_desSplit (b : Bytes 8) : desJoin (desSplit b).swap = b := by
  simp only [desSplit, desJoin, Prod.swap, append_halves, desFP_desIP, bytes64_bits64]

theorem desRounds_append (ks ks' : List (BitVec 48)) (lr : Halves) :
    desRounds (ks ++ ks') lr = desRounds ks' (desRounds ks lr) := by
  induction ks generalizing lr with
  | nil => rfl
  | cons k ks ih => exact ih _

theorem desRounds_cons (k : BitVec 48) (ks : List (BitVec 48)) (lr : Halves) :
    desRounds (k :: ks) lr = desRounds ks (lr.2, lr.1 ^^^ desRound lr.2 k) := rfl

/-- The rounds in reverse order, on exchanged halves, undo the rounds. -/
theorem desRounds_reverse (ks : List (BitVec 48)) (lr : Halves) :
    desRounds ks.reverse (desRounds ks lr).swap = lr.swap := by
  induction ks generalizing lr with
  | nil => rfl
  | cons k ks ih =>
    rw [List.reverse_cons, desRounds_append, desRounds_cons k ks, ih]
    simp [desRounds, Prod.swap]

theorem desWith_reverse (ks : List (BitVec 48)) (b : Bytes 8) : desWith ks.reverse (desWith ks b) = b := by
  rw [desWith, desWith, desSplit_desJoin, desRounds_reverse, desJoin_swap_desSplit]

theorem desDecrypt_desEncrypt (key b : Bytes 8) : desDecrypt key (desEncrypt key b) = b := desWith_reverse _ b

theorem desEncrypt_desDecrypt (key b : Bytes 8) : desEncrypt key (desDecrypt key b) = b := by
  have h := desWith_reverse (desKeySchedule key).reverse b
  rwa [List.reverse_reverse] at h

/-- Settles O33. -/
theorem desRoundTrip : Obligations.DesRoundTrip :=
  fun K B => ⟨rfl, rfl, desDecrypt_desEncrypt K B, desEncrypt_desDecrypt K B⟩

theorem tdesDecrypt_tdesEncrypt (key : Bytes 24) (b : Bytes 8) : tdesDecrypt key (tdesEncrypt key b) = b := by
  rw [tdesDecrypt, tdesEncrypt, desDecrypt_desEncrypt, desEncrypt_desDecrypt, desDecrypt_desEncrypt]

/-- Settles O34: with `K1 = K2` the first two passes cancel. -/
theorem tdesRoundTrip : Obligations.TdesRoundTrip := by
  refine fun K B => ⟨tdesDecrypt_tdesEncrypt K B, fun h => ?_⟩
  have hpart : tdesPart K 0 = tdesPart K 1 := by
    ext1 i hi
    simpa [tdesPart] using h ⟨i, hi⟩
  rw [tdesEncrypt, hpart, desDecrypt_desEncrypt]
  rfl

/-- A bit of a byte above its lowest one is that of the byte shifted down. -/
theorem getMsbD_eq_of_shift_eq {x y : Byte} (h : x >>> 1 = y >>> 1) {r : Nat} (hr : r < 7) :
    x.getMsbD r = y.getMsbD r := by
  have hbit (z : Byte) : z.getMsbD r = (z >>> 1).getLsbD (6 - r) := by
    have h1 : r < 8 := by omega
    have h2 : 8 - 1 - r = 1 + (6 - r) := by omega
    simp only [BitVec.getMsbD, BitVec.getLsbD_ushiftRight, h1, h2, decide_true, Bool.true_and]
  rw [hbit, hbit, h]

/-- `PC1` reads no parity bit (rule R247). -/
theorem desPC1_skips_parity : ∀ j ∈ desPC1, j - 1 < 64 ∧ (j - 1) % 8 < 7 := by decide

theorem desKeySchedule_eq {K K' : Bytes 8} (h : ∀ i : Fin 8, K[i] >>> 1 = K'[i] >>> 1) :
    desKeySchedule K = desKeySchedule K' := by
  have hpc1 : permute 56 desPC1 (bits64 K) = permute 56 desPC1 (bits64 K') := by
    apply BitVec.eq_of_getMsbD_eq
    intro i hi
    have hlen : desPC1.length = 56 := rfl
    have hmem : desPC1.getD i 0 ∈ desPC1 := by
      rw [List.getD_eq_getElem _ _ (hlen ▸ hi)]
      exact List.getElem_mem _
    obtain ⟨h64, hpar⟩ := desPC1_skips_parity _ hmem
    rw [getMsbD_permute _ hlen hi, getMsbD_permute _ hlen hi, getMsbD_bits64 _ _ h64, getMsbD_bits64 _ _ h64]
    exact getMsbD_eq_of_shift_eq (h ⟨_, by omega⟩) hpar
  simp only [desKeySchedule, hpc1]

/-- Settles O35. -/
theorem desParityIgnored : Obligations.DesParityIgnored := by
  intro K K' B h
  simp only [desEncrypt, desDecrypt, desKeySchedule_eq h, and_self]

theorem desRoundsRd_eq (delay : Nat → Nat) (i : Nat) (ks : List (BitVec 48)) (lr : Halves) :
    desRoundsRd delay i ks lr = desRounds ks lr := by
  induction ks generalizing i lr with
  | nil => rfl
  | cons k ks ih => exact ih _ _

theorem desEncryptRd_eq (delay : Nat → Nat) (key b : Bytes 8) : desEncryptRd delay key b = desEncrypt key b :=
  congrArg desJoin (desRoundsRd_eq delay 0 _ _)

theorem desRoundsRs_eq {order : Nat → List (Fin 8)} (h : ∀ i, (order i).Perm (List.finRange 8)) (i : Nat)
    (ks : List (BitVec 48)) (lr : Halves) : desRoundsRs order i ks lr = desRounds ks lr := by
  induction ks generalizing i lr with
  | nil => rfl
  | cons k ks ih => rw [desRoundsRs, desRoundIn_eq (h i), ih, desRounds]

theorem desEncryptRs_eq {order : Nat → List (Fin 8)} (h : ∀ i, (order i).Perm (List.finRange 8)) (key b : Bytes 8) :
    desEncryptRs order key b = desEncrypt key b := congrArg desJoin (desRoundsRs_eq h 0 _ _)

/-! ### SM4 -/

/-- The four words in reverse order (rule R286). -/
def Quad.reverse (x : Quad) : Quad := ⟨x.d, x.c, x.b, x.a⟩

theorem getElem_wordsBlock (u : Vector Word32 4) (i : Nat) (h : i < 16) :
    (wordsBlock u)[i] = wordByte u[i / 4] (i % 4) := by simp [wordsBlock]

theorem sm4Words_sm4Unwords (x : Quad) : sm4Words (sm4Unwords x) = x.reverse := by
  simp only [sm4Words, sm4Unwords, getElem_wordsBlock, Quad.reverse]
  exact congr (congr (congr (congrArg Quad.mk (packWord_wordByte x.d)) (packWord_wordByte x.c)) (packWord_wordByte x.b))
    (packWord_wordByte x.a)

theorem sm4Unwords_reverse_sm4Words (b : Block) : sm4Unwords (sm4Words b).reverse = b := by
  have hwords : (#v[(sm4Words b).a, (sm4Words b).b, (sm4Words b).c, (sm4Words b).d] : Vector Word32 4) =
      blockWords b := by
    ext1 c h
    rw [getElem_blockWords]
    interval_cases c <;> rfl
  rw [sm4Unwords]
  exact (congrArg wordsBlock hwords).trans (wordsBlock_blockWords b)

theorem sm4Rounds_append (ks ks' : List Word32) (x : Quad) :
    sm4Rounds (ks ++ ks') x = sm4Rounds ks' (sm4Rounds ks x) := by
  induction ks generalizing x with
  | nil => rfl
  | cons k ks ih => exact ih _

theorem sm4Rounds_cons (k : Word32) (ks : List Word32) (x : Quad) :
    sm4Rounds (k :: ks) x = sm4Rounds ks (sm4Round x k) := rfl

/-- A round on the reversed words of its result gives the reversed words that it started from. -/
theorem sm4Round_reverse (x : Quad) (k : Word32) : sm4Round (sm4Round x k).reverse k = x.reverse := by
  have hsum : x.d ^^^ x.c ^^^ x.b ^^^ k = x.b ^^^ x.c ^^^ x.d ^^^ k := by ac_rfl
  simp only [sm4Round, Quad.reverse, hsum]
  rw [BitVec.xor_assoc, BitVec.xor_self, BitVec.xor_zero]

theorem sm4Rounds_reverse (ks : List Word32) (x : Quad) :
    sm4Rounds ks.reverse (sm4Rounds ks x).reverse = x.reverse := by
  induction ks generalizing x with
  | nil => rfl
  | cons k ks ih =>
    rw [List.reverse_cons, sm4Rounds_append, sm4Rounds_cons k ks, ih, sm4Rounds_cons, sm4Round_reverse]
    rfl

theorem sm4With_reverse (ks : List Word32) (b : Block) : sm4With ks.reverse (sm4With ks b) = b := by
  rw [sm4With, sm4With, sm4Words_sm4Unwords, sm4Rounds_reverse, sm4Unwords_reverse_sm4Words]

theorem sm4Decrypt_sm4Encrypt (key b : Block) : sm4Decrypt key (sm4Encrypt key b) = b := sm4With_reverse _ b

theorem sm4Encrypt_sm4Decrypt (key b : Block) : sm4Encrypt key (sm4Decrypt key b) = b := by
  have h := sm4With_reverse (sm4KeyExpansion key).reverse b
  rwa [List.reverse_reverse] at h

/-- Settles O36. -/
theorem sm4RoundTrip : Obligations.Sm4RoundTrip :=
  fun K B => ⟨rfl, rfl, sm4Decrypt_sm4Encrypt K B, sm4Encrypt_sm4Decrypt K B⟩

theorem sm4RoundsRd_eq (delay : Nat → Nat) (i : Nat) (ks : List Word32) (x : Quad) :
    sm4RoundsRd delay i ks x = sm4Rounds ks x := by
  induction ks generalizing i x with
  | nil => rfl
  | cons k ks ih => exact ih _ _

theorem sm4EncryptRd_eq (delay : Nat → Nat) (key b : Block) : sm4EncryptRd delay key b = sm4Encrypt key b :=
  congrArg sm4Unwords (sm4RoundsRd_eq delay 0 _ _)

/-! ### RSA -/

/-- Square and multiply from a reduced accumulator: after `i` bits it is squared `i` times and multiplied by the power
that the low `i` bits of `d` name (rule R303). -/
theorem squareMultiply_eq (delay : Nat → Nat) (c d : Nat) {n : Nat} (i : Nat) {r : Nat} (hr : r < n) :
    squareMultiply delay c d n i r = r ^ 2 ^ i * c ^ (d % 2 ^ i) % n := by
  induction i generalizing r with
  | zero => simp [squareMultiply, Nat.mod_one, Nat.mod_eq_of_lt hr]
  | succ i ih =>
    have hn : 0 < n := by omega
    have hsq : (r * r % n) ≡ r ^ 2 [MOD n] := by rw [sq]; exact Nat.mod_modEq _ _
    have hpow : r ^ 2 ^ (i + 1) = (r ^ 2) ^ 2 ^ i := by rw [← pow_mul, pow_succ']
    have hlow : d % 2 ^ (i + 1) = 2 ^ i * (d.testBit i).toNat + d % 2 ^ i := by
      rw [Nat.mod_pow_succ, Nat.toNat_testBit, Nat.add_comm]
    rw [squareMultiply, nop, hlow, hpow]
    cases d.testBit i with
    | false =>
      rw [if_neg (by simp), ih (Nat.mod_lt _ hn), Bool.toNat_false, mul_zero, zero_add]
      exact (hsq.pow (2 ^ i)).mul_right (c ^ (d % 2 ^ i))
    | true =>
      rw [if_pos rfl, ih (Nat.mod_lt _ hn)]
      have hstep : r * r % n * c % n ≡ r ^ 2 * c [MOD n] := (Nat.mod_modEq _ _).trans (hsq.mul_right c)
      have hpows := (hstep.pow (2 ^ i)).mul_right (c ^ (d % 2 ^ i))
      rw [mul_pow, mul_assoc, ← pow_add] at hpows
      rw [Bool.toNat_true, mul_one]
      exact hpows

theorem lt_two_pow_bitLen (d : Nat) : d < 2 ^ bitLen d := by
  unfold bitLen
  split
  · simp_all
  · exact Nat.lt_log2_self

/-- Square and multiply is a power, whatever the delays (rules R303 and R312). -/
theorem squareMultiply_bitLen (delay : Nat → Nat) (c d : Nat) {n : Nat} (hn : 1 < n) :
    squareMultiply delay c d n (bitLen d) 1 = c ^ d % n := by
  rw [squareMultiply_eq delay c d _ hn, one_pow, one_mul, Nat.mod_eq_of_lt (lt_two_pow_bitLen d)]

theorem powMod_eq (c d : Nat) {n : Nat} (hn : 1 < n) : powMod c d n = c ^ d % n := squareMultiply_bitLen _ c d hn

/-- Reducing base and exponent keeps a power modulo a prime, where the exponent stays positive. -/
theorem pow_mod_reduced {p c d : Nat} (hp : p.Prime) (hd : d % (p - 1) ≠ 0) :
    (c % p) ^ (d % (p - 1)) ≡ c ^ d [MOD p] := by
  have hd0 : d ≠ 0 := by
    rintro rfl
    simp at hd
  refine ((Nat.mod_modEq c p).pow _).trans ?_
  by_cases hc : p ∣ c
  · have hzero (k : Nat) (hk : k ≠ 0) : c ^ k ≡ 0 [MOD p] := (Nat.modEq_zero_iff_dvd).2 (dvd_pow hc hk)
    exact (hzero _ hd).trans (hzero _ hd0).symm
  · have hcop : Nat.Coprime c p := (Nat.Prime.coprime_iff_not_dvd hp).2 hc |>.symm
    have hfermat : c ^ (p - 1) ≡ 1 [MOD p] := by
      have := Nat.ModEq.pow_totient hcop
      rwa [Nat.totient_prime hp] at this
    have hsplit : c ^ d = (c ^ (p - 1)) ^ (d / (p - 1)) * c ^ (d % (p - 1)) := by
      rw [← pow_mul, ← pow_add, Nat.div_add_mod]
    rw [hsplit]
    simpa using ((hfermat.pow (d / (p - 1))).mul_right (c ^ (d % (p - 1)))).symm

theorem subMod_add_modEq {a b p : Nat} (hp : 0 < p) : subMod a b p + b ≡ a [MOD p] := by
  have hlt := Nat.mod_lt b hp
  calc subMod a b p + b ≡ a + (p - b % p) + b % p [MOD p] := (Nat.mod_modEq _ _).add (Nat.mod_modEq b p).symm
    _ = a + p := by omega
    _ ≡ a [MOD p] := by simp [Nat.ModEq]

namespace RsaKeyWF
variable {key : RsaKey} (h : key.WF)
include h

theorem p_ge : 3 ≤ key.p := by
  have := h.p_prime.two_le
  have := h.p_odd
  omega

theorem q_ge : 3 ≤ key.q := by
  have := h.q_prime.two_le
  have := h.q_odd
  omega

theorem one_lt_n : 1 < key.n := by
  rw [h.n_eq]
  exact Nat.one_lt_mul_iff.2 ⟨h.p_prime.pos, h.q_prime.pos, .inl h.p_prime.one_lt⟩

/-- The exponent shares no factor with `p - 1`, which is at least 2, so it is no multiple of it. -/
theorem d_mod_p_ne_zero : key.d % (key.p - 1) ≠ 0 := by
  intro h0
  have hcop := h.d_coprime.coprime_mul_right_right
  have := Nat.Coprime.eq_one_of_dvd hcop.symm (Nat.dvd_of_mod_eq_zero h0)
  have := p_ge h
  omega

theorem d_mod_q_ne_zero : key.d % (key.q - 1) ≠ 0 := by
  intro h0
  have hcop := h.d_coprime.coprime_mul_left_right
  have := Nat.Coprime.eq_one_of_dvd hcop.symm (Nat.dvd_of_mod_eq_zero h0)
  have := q_ge h
  omega

theorem d_odd : Odd key.d := by
  have heven : 2 ∣ key.p - 1 := by
    have := h.p_odd
    omega
  have hcop := h.d_coprime.coprime_mul_right_right.coprime_dvd_right heven
  exact (Nat.coprime_two_right).1 hcop

theorem rsaSfm_eq (c : Nat) : rsaSfm key c = c ^ key.d % key.n := powMod_eq c key.d (one_lt_n h)

/-- Garner's recombination: the result is the residue of `c^d` modulo both primes, and it is below their product. -/
theorem rsaCrt_eq (c : Nat) : rsaCrt key c = c ^ key.d % key.n := by
  have hp := h.p_prime
  have hq := h.q_prime
  have hm1 : powMod (c % key.p) key.dp key.p ≡ c ^ key.d [MOD key.p] := by
    rw [powMod_eq _ _ hp.one_lt, h.dp_eq]
    exact (Nat.mod_modEq _ _).trans (pow_mod_reduced hp (d_mod_p_ne_zero h))
  have hm2 : powMod (c % key.q) key.dq key.q ≡ c ^ key.d [MOD key.q] := by
    rw [powMod_eq _ _ hq.one_lt, h.dq_eq]
    exact (Nat.mod_modEq _ _).trans (pow_mod_reduced hq (d_mod_q_ne_zero h))
  have hm2lt : powMod (c % key.q) key.dq key.q < key.q := by
    rw [powMod_eq _ _ hq.one_lt]
    exact Nat.mod_lt _ hq.pos
  rw [rsaCrt]
  generalize powMod (c % key.p) key.dp key.p = m1 at hm1 ⊢
  generalize powMod (c % key.q) key.dq key.q = m2 at hm2 hm2lt ⊢
  have hsub := subMod_add_modEq (a := m1) (b := m2) hp.pos
  generalize subMod m1 m2 key.p = diff at hsub ⊢
  have hinv : key.qinv * key.q ≡ 1 [MOD key.p] := by
    rw [Nat.ModEq, h.qinv_eq, Nat.mod_eq_of_lt hp.one_lt]
  have hdiff : key.qinv * diff % key.p * key.q ≡ diff [MOD key.p] := by
    have := ((Nat.mod_modEq (key.qinv * diff) key.p).mul_right key.q).trans
      (show key.qinv * diff * key.q ≡ 1 * diff [MOD key.p] by
        rw [mul_right_comm]
        exact hinv.mul_right diff)
    rwa [one_mul] at this
  have hmodp : m2 + key.qinv * diff % key.p * key.q ≡ c ^ key.d [MOD key.p] := by
    rw [add_comm]
    exact ((hdiff.add_right m2).trans hsub).trans hm1
  have hmodq : m2 + key.qinv * diff % key.p * key.q ≡ c ^ key.d [MOD key.q] := by
    have : m2 + key.qinv * diff % key.p * key.q ≡ m2 [MOD key.q] := by simp [Nat.ModEq]
    exact this.trans hm2
  have hcop : Nat.Coprime key.p key.q := (Nat.coprime_primes hp hq).2 h.p_ne_q
  have hmod := (Nat.modEq_and_modEq_iff_modEq_mul hcop).1 ⟨hmodp, hmodq⟩
  have hlt : m2 + key.qinv * diff % key.p * key.q < key.p * key.q := by
    have hle : key.qinv * diff % key.p + 1 ≤ key.p := Nat.mod_lt _ hp.pos
    have := Nat.mul_le_mul_right key.q hle
    rw [add_mul, one_mul] at this
    omega
  rw [h.n_eq, ← hmod, Nat.mod_eq_of_lt hlt]

/-- `n - 1` is `-1` modulo `n`, and the exponent is odd. -/
theorem pred_pow_mod : (key.n - 1) ^ key.d % key.n = key.n - 1 := by
  have hn := one_lt_n h
  obtain ⟨m, hm⟩ := d_odd h
  have hsq : (key.n - 1) ^ 2 ≡ 1 [MOD key.n] := by
    have hexp : (key.n - 1) ^ 2 = key.n * (key.n - 2) + 1 := by
      obtain ⟨k, hk⟩ : ∃ k, key.n = k + 2 := ⟨key.n - 2, by omega⟩
      rw [hk, show k + 2 - 1 = k + 1 by omega, show k + 2 - 2 = k by omega]
      ring
    rw [hexp]
    simp [Nat.ModEq]
  have hpow : (key.n - 1) ^ key.d ≡ key.n - 1 [MOD key.n] := by
    rw [hm, pow_succ, pow_mul]
    simpa using (hsq.pow m).mul_right (key.n - 1)
  rw [hpow, Nat.mod_eq_of_lt (by omega)]

end RsaKeyWF

/-- Settles O37. -/
theorem rsaMethodsAgree : Obligations.RsaMethodsAgree := by
  intro key h
  refine ⟨fun c _ => ⟨RsaKeyWF.rsaCrt_eq h c, RsaKeyWF.rsaSfm_eq h c⟩, ?_, ?_, ?_⟩
  · rw [RsaKeyWF.rsaSfm_eq h, zero_pow (by have := h.d_pos; omega), Nat.zero_mod]
  · rw [RsaKeyWF.rsaSfm_eq h, one_pow, Nat.mod_eq_of_lt (RsaKeyWF.one_lt_n h)]
  · rw [RsaKeyWF.rsaSfm_eq h, RsaKeyWF.pred_pow_mod h]

end Sys2Proof.Machine
end

section
/-! What each command does (42_aes_commands.md to 47_session.md): one lemma for each shape of command, with the value
that the cipher has whatever masks, delays and orders are drawn, and the result statements that follow. -/

namespace Sys2Proof.Machine

/-! ### The value of a cipher command -/

/-- The bytes that a fixed-block cipher command leaves in the output region where nothing hinders it: the value of its
cipher under its key register; draws do not enter. -/
def cipherOutput (i : Instr) (s : State) : List Byte :=
  match i with
  | .aes128Enc p | .aes128EncTbl p | .aes128EncHw p | .aes128EncMt p | .aes128EncMtp p | .aes128EncMb p | .aes128EncRd p
  | .aes128EncRs p | .aes128EncMa p | .aes128EncDc p => (aesEncrypt 4 s.keyAes128 p).toList
  | .aes128EncMbx pm => (aesEncrypt 4 s.keyAes128 (Vector.ofFn fun i : Fin 16 => pm[i.val]'(by omega))).toList
  | .aes128Dec p | .aes128DecTbl p | .aes128DecHw p => (aesDecrypt 4 s.keyAes128 p).toList
  | .aes256Enc p => (aesCipher (unpackSchedule s.rk256) p).toList
  | .aes256Dec p => (aesInvCipher (unpackSchedule s.rk256) p).toList
  | .aes256EncHw p | .aes256EncMt p | .aes256EncMb p => (aesEncrypt 8 s.keyAes256 p).toList
  | .aes256DecHw p => (aesDecrypt 8 s.keyAes256 p).toList
  | .desEnc b | .desEncRd b | .desEncRs b | .desEncMa b | .desEncDc b => (desEncrypt s.keyDes b).toList
  | .desDec b => (desDecrypt s.keyDes b).toList
  | .tdesEnc b | .tdesEncHw b => (tdesEncrypt s.keyTdes b).toList
  | .tdesDec b | .tdesDecHw b => (tdesDecrypt s.keyTdes b).toList
  | .sm4Enc b | .sm4EncRd b => (sm4Encrypt s.keySm4 b).toList
  | .sm4Dec b => (sm4Decrypt s.keySm4 b).toList
  | _ => []

/-- How many draws a cipher command without an accelerator makes. -/
def cipherDraws : Instr → Nat
  | .aes128EncMt _ | .aes128EncMtp _ | .aes256EncMt _ => 6
  | .aes128EncMb _ | .aes256EncMb _ => 1
  | .aes128EncRd _ => 11
  | .aes128EncRs _ => 10
  | .desEncRd _ | .desEncRs _ => 16
  | .sm4EncRd _ => 32
  | _ => 0

/-- A fixed-block cipher command that answers always. -/
def isPlainCipher (i : Instr) : Bool := outputLen i != 0 && !isHardwareBacked i && !isDoubleComputation i

theorem length_cipherOutput (i : Instr) (s : State) : (cipherOutput i s).length = outputLen i := by
  cases i <;> simp [cipherOutput, outputLen]

/-- An answer given through another computation of the same value. -/
theorem answer_congr {r : Res} {s : State} {p : List Byte} {n draws : Nat} {x y : Bytes n}
    (h : r = .next (completed s (blockEffect s p x.toList draws))) (hxy : x = y) :
    r = .next (completed s (blockEffect s p y.toList draws)) := hxy ▸ h

theorem sliceBytes_zero (pm : Bytes 32) :
    sliceBytes 0 16 pm (by decide) = Vector.ofFn fun i : Fin 16 => pm[i.val]'(by omega) := by
  ext1 i hi
  simp [sliceBytes]

/-- A cipher command that answers always, with the trigger line low: one window, and the value of the cipher. -/
theorem exec_plainCipher {i : Instr} (hi : isPlainCipher i = true) {s : State} (ht : s.trig = false) :
    exec i s = .next (completed s (blockEffect s ((encode i).drop 1) (cipherOutput i s) (cipherDraws i))) := by
  cases i with
  | aes128Enc p | aes128Dec p | aes128EncMa p | aes256Enc p | aes256Dec p | sm4Enc p | sm4Dec p | desEnc p | desDec p
  | desEncMa p | tdesEnc p | tdesDec p =>
    exact blockCmd_low _ _ (fun _ _ _ _ _ _ => rfl) p s (by decide) (by decide) ht
  | aes128EncTbl p =>
    exact answer_congr (blockCmd_low 0 (fun s => aesCipherTbl 4 s.keyAes128)
      (fun _ _ _ _ _ _ => rfl) p s (by decide) (by decide) ht) (aesCipherTbl_eq 4 s.keyAes128 p)
  | aes128DecTbl p =>
    exact answer_congr (blockCmd_low 0 (fun s => aesInvCipherTbl 4 s.keyAes128)
      (fun _ _ _ _ _ _ => rfl) p s (by decide) (by decide) ht) (aesInvCipherTbl_eq 4 s.keyAes128 p)
  | aes128EncMt p =>
    exact answer_congr (preparedCmd_low 6 (fun s => mtPrepare 4 s.keyAes128 (drawMasks s)) mtEncrypt
      (fun s m x c b es => congrArg (mtPrepare 4 s.keyAes128) (reads_drawMasks s m x c b es))
      p s (by decide) (by decide) ht) (mtEncrypt_mtPrepare 4 s.keyAes128 (drawMasks s) p)
  | aes128EncMb p =>
    exact answer_congr (preparedCmd_low 1 (fun s => (s.keyAes128, drawMaskBlock s))
      (fun km p => aesMaskedBefore 4 km.1 p km.2)
      (fun s m x c b es => congrArg (Prod.mk s.keyAes128) (reads_drawMaskBlock s m x c b es))
      p s (by decide) (by decide) ht) (aesMaskedBefore_eq 4 s.keyAes128 p (drawMaskBlock s))
  | aes256EncMt p =>
    exact answer_congr (preparedCmd_low 6 (fun s => mtPrepare 8 s.keyAes256 (drawMasks s)) mtEncrypt
      (fun s m x c b es => congrArg (mtPrepare 8 s.keyAes256) (reads_drawMasks s m x c b es))
      p s (by decide) (by decide) ht) (mtEncrypt_mtPrepare 8 s.keyAes256 (drawMasks s) p)
  | aes256EncMb p =>
    exact answer_congr (preparedCmd_low 1 (fun s => (s.keyAes256, drawMaskBlock s))
      (fun km p => aesMaskedBefore 8 km.1 p km.2)
      (fun s m x c b es => congrArg (Prod.mk s.keyAes256) (reads_drawMaskBlock s m x c b es))
      p s (by decide) (by decide) ht) (aesMaskedBefore_eq 8 s.keyAes256 p (drawMaskBlock s))
  | aes128EncMtp p =>
    exact answer_congr (blockCmd_low 6 (fun s => mtEncrypt (mtPrepare 4 s.keyAes128 (drawMasks s)))
      (fun s m x c b es => congrArg (fun k => mtEncrypt (mtPrepare 4 s.keyAes128 k)) (reads_drawMasks s m x c b es))
      p s (by decide) (by decide) ht) (mtEncrypt_mtPrepare 4 s.keyAes128 (drawMasks s) p)
  | aes128EncMbx pm =>
    exact answer_congr (blockCmd_low 0 (fun s x =>
        aesMaskedBefore 4 s.keyAes128 (sliceBytes 0 16 x (by decide)) (sliceBytes 16 16 x (by decide)))
      (fun _ _ _ _ _ _ => rfl) pm s (by decide) (by decide) ht)
      ((aesMaskedBefore_eq 4 s.keyAes128 _ _).trans (congrArg (aesEncrypt 4 s.keyAes128) (sliceBytes_zero pm)))
  | aes128EncRd p =>
    exact answer_congr (blockCmd_low 11 (fun s => aesCipherRd (drawDelay s) (aesKeyExpansion 4 s.keyAes128))
      (fun s m x c b es => congrArg (aesCipherRd · (aesKeyExpansion 4 s.keyAes128)) (reads_drawDelay s m x c b es))
      p s (by decide) (by decide) ht) (aesCipherRd_eq (drawDelay s) _ p)
  | aes128EncRs p =>
    exact answer_congr (blockCmd_low 10
      (fun s => aesCipherRs (fun r => drawOrder 16 s (r - 1)) (aesKeyExpansion 4 s.keyAes128))
      (fun s m x c b es => congrArg (aesCipherRs · (aesKeyExpansion 4 s.keyAes128)) (reads_roundOrder s m x c b es))
      p s (by decide) (by decide) ht) (aesCipherRs_eq (fun r => drawOrder_perm 16 s (r - 1)) _ p)
  | desEncRd p =>
    exact answer_congr (blockCmd_low 16 (fun s => desEncryptRd (drawDelay s) s.keyDes)
      (fun s m x c b es => congrArg (desEncryptRd · s.keyDes) (reads_drawDelay s m x c b es))
      p s (by decide) (by decide) ht) (desEncryptRd_eq (drawDelay s) s.keyDes p)
  | desEncRs p =>
    exact answer_congr (blockCmd_low 16 (fun s => desEncryptRs (drawOrder 8 s) s.keyDes)
      (fun s m x c b es => congrArg (desEncryptRs · s.keyDes) (reads_drawOrder 8 s m x c b es))
      p s (by decide) (by decide) ht) (desEncryptRs_eq (drawOrder_perm 8 s) s.keyDes p)
  | sm4EncRd p =>
    exact answer_congr (blockCmd_low 32 (fun s => sm4EncryptRd (drawDelay s) s.keySm4)
      (fun s m x c b es => congrArg (sm4EncryptRd · s.keySm4) (reads_drawDelay s m x c b es))
      p s (by decide) (by decide) ht) (sm4EncryptRd_eq (drawDelay s) s.keySm4 p)
  | _ => cases hi

/-- Settles O39. -/
theorem aes128PlainResults : Obligations.Aes128PlainResults :=
  fun _ _ ht => ⟨exec_plainCipher rfl ht, exec_plainCipher rfl ht, exec_plainCipher rfl ht, exec_plainCipher rfl ht⟩

/-- Settles O40. -/
theorem aes128MaskedResults : Obligations.Aes128MaskedResults :=
  fun _ _ _ ht => ⟨exec_plainCipher rfl ht, exec_plainCipher rfl ht, exec_plainCipher rfl ht, exec_plainCipher rfl ht⟩

/-- Settles O41. -/
theorem aes128TimedResults : Obligations.Aes128TimedResults :=
  fun _ _ ht => ⟨exec_plainCipher rfl ht, exec_plainCipher rfl ht, exec_plainCipher rfl ht⟩

/-- A schedule register that holds the schedule of the key gives it back. -/
theorem unpackSchedule_eq {s : State} (h : s.rk256 = packSchedule (aesKeyExpansion 8 s.keyAes256)) :
    unpackSchedule s.rk256 = aesKeyExpansion 8 s.keyAes256 := by
  rw [h, unpackSchedule_packSchedule (length_aesKeyExpansion 8 _)]

/-- Settles O42. -/
theorem aes256Results : Obligations.Aes256Results := by
  refine fun P s ht => ⟨fun hs => ?_, exec_plainCipher rfl ht, exec_plainCipher rfl ht⟩
  rw [aesEncrypt, aesDecrypt, ← unpackSchedule_eq hs]
  exact ⟨exec_plainCipher rfl ht, exec_plainCipher rfl ht⟩

/-- Settles O46. -/
theorem desResults : Obligations.DesResults :=
  fun _ _ ht => ⟨exec_plainCipher rfl ht, exec_plainCipher rfl ht, exec_plainCipher rfl ht, exec_plainCipher rfl ht,
    exec_plainCipher rfl ht⟩

/-- Settles O47. -/
theorem tdesResults : Obligations.TdesResults := fun _ _ ht => ⟨exec_plainCipher rfl ht, exec_plainCipher rfl ht⟩

/-- Settles O48. -/
theorem sm4Results : Obligations.Sm4Results :=
  fun _ _ ht => ⟨exec_plainCipher rfl ht, exec_plainCipher rfl ht, exec_plainCipher rfl ht⟩

/-! ### Hardware-backed commands -/

theorem toList_zeroBytes (n : Nat) : (zeroBytes n).toList = List.replicate n 0#8 := by
  apply List.ext_getElem (by simp)
  intro i h1 h2
  simp

/-- A hardware-backed command, where the accelerator answers. -/
theorem exec_hardware_answers {i : Instr} (h : isHardwareBacked i = true) {s : State} (ht : s.trig = false)
    (ha : accelerates s = true) :
    exec i s = .next (completed s (blockEffect s ((encode i).drop 1) (cipherOutput i s) 1)) := by
  cases i with
  | aes128EncHw p | aes128DecHw p | aes256EncHw p | aes256DecHw p =>
    exact hwCmd_answers (n := 16) _ (fun _ _ _ _ _ _ => rfl) (fun _ _ => rfl) p s (by decide) ht ha
  | tdesEncHw p | tdesDecHw p =>
    exact hwCmd_answers (n := 8) _ (fun _ _ _ _ _ _ => rfl) (fun _ _ => rfl) p s (by decide) ht ha
  | _ => cases h

/-- A hardware-backed command, where the accelerator is absent or fails (60_exceptions.md rule R343). -/
theorem exec_hardware_unavailable {i : Instr} (h : isHardwareBacked i = true) {s : State} (ha : accelerates s = false) :
    exec i s = .next (completed s ⟨(encode i).drop 1,
      blockScratch s.scr ((encode i).drop 1) (List.replicate (outputLen i) 0), false,
      List.replicate (outputLen i) 0, hwDraws s⟩) := by
  have h8 := toList_zeroBytes 8
  have h16 := toList_zeroBytes 16
  cases i with
  | aes128EncHw p | aes128DecHw p | aes256EncHw p | aes256DecHw p =>
    exact h16 ▸ hwCmd_unavailable (n := 16) _ p s (by decide) ha
  | tdesEncHw p | tdesDecHw p => exact h8 ▸ hwCmd_unavailable (n := 8) _ p s (by decide) ha
  | _ => cases h

/-- Settles O43. -/
theorem hardwareAnswers : Obligations.HardwareAnswers := by
  intro P B s ht hp hb
  have ha : accelerates s = true := by simp [accelerates, hp, hb]
  exact ⟨exec_hardware_answers rfl ht ha, exec_hardware_answers rfl ht ha, exec_hardware_answers rfl ht ha,
    exec_hardware_answers rfl ht ha, exec_hardware_answers rfl ht ha, exec_hardware_answers rfl ht ha⟩

/-- Settles O44. -/
theorem hardwareUnavailable : Obligations.HardwareUnavailable := by
  intro P B s h
  have ha : accelerates s = false := Bool.and_eq_false_iff.2 h
  exact ⟨exec_hardware_unavailable rfl ha, exec_hardware_unavailable rfl ha, exec_hardware_unavailable rfl ha,
    exec_hardware_unavailable rfl ha, exec_hardware_unavailable rfl ha, exec_hardware_unavailable rfl ha⟩

/-! ### Key changes -/

/-- A command that writes a register and echoes it. -/
def isKeyChange : Instr → Bool
  | .desKey _ | .tdesKey _ | .aes128Key _ | .aes256Key _ | .sm4Key _ | .pwdSet _ => true
  | _ => false

theorem exec_keyChange {i : Instr} (h : isKeyChange i = true) (s : State) :
    exec i s = .next (completed (written i s) (echoEffect s ((encode i).drop 1))) := by
  cases i with
  | desKey k => exact keyChange_eq (n := 8) _ _ writes_keyDes (fun _ _ => rfl) k s (by decide)
  | tdesKey k => exact keyChange_eq (n := 24) _ _ writes_keyTdes (fun _ _ => rfl) k s (by decide)
  | aes128Key k => exact keyChange_eq (n := 16) _ _ writes_keyAes128 (fun _ _ => rfl) k s (by decide)
  | aes256Key k => exact keyChange_eq (n := 32) _ _ writes_keyAes256 (fun _ _ => rfl) k s (by decide)
  | sm4Key k => exact keyChange_eq (n := 16) _ _ writes_keySm4 (fun _ _ => rfl) k s (by decide)
  | pwdSet w => exact keyChange_eq (n := 4) _ _ writes_pwd (fun _ _ => rfl) w s (by decide)
  | _ => cases h

/-- Settles O45. -/
theorem keyChanges : Obligations.KeyChanges :=
  fun s => ⟨fun _ => exec_keyChange rfl s, fun _ => exec_keyChange rfl s, fun _ => exec_keyChange rfl s,
    fun _ => exec_keyChange rfl s, fun _ => exec_keyChange rfl s⟩

/-- Settles O57. -/
theorem passwordChange : Obligations.PasswordChange := fun _ s => exec_keyChange rfl s

/-! ### Double computation -/

theorem resultsAgree_iff {n : Nat} {a b : Bytes n} : resultsAgree a b = true ↔ a = b := by
  simp [resultsAgree]

/-- Settles O49. -/
theorem doubleComputationResults : Obligations.DoubleComputationResults := by
  refine ⟨fun P s ht => ?_, fun B s ht => ?_⟩
  · intro C P2
    have h := doubleCmd_low (fun s => aesEncrypt 4 s.keyAes128) (fun s => aesInvCipherTbl 4 s.keyAes128)
      (fun _ _ _ _ _ _ => rfl) (fun _ _ _ _ _ _ => rfl) P C P2 s (by decide) ht rfl
      (by rw [aesInvCipherTbl_eq])
    simp only [resultsAgree_iff] at h
    exact h
  · intro C B2
    have h := doubleCmd_low (fun s => desEncrypt s.keyDes) (fun s => desDecrypt s.keyDes)
      (fun _ _ _ _ _ _ => rfl) (fun _ _ _ _ _ _ => rfl) B C B2 s (by decide) ht rfl rfl
    simp only [resultsAgree_iff] at h
    exact h

theorem xorBytes_eq_left_iff {n : Nat} {a b : Bytes n} : xorBytes a b = a ↔ b = zeroBytes n := by
  constructor
  · intro h
    calc b = xorBytes (xorBytes b a) a := (xorBytes_cancel b a).symm
      _ = xorBytes a a := by rw [xorBytes_comm b a, h]
      _ = zeroBytes n := by ext1 i hi; simp
  · rintro rfl
    exact xorBytes_zero a

/-- Where exactly one of the two computations is perturbed, the second result is not the payload (rule R230). -/
theorem second_result_ne {n : Nat} {enc dec : Bytes n → Bytes n} (hde : ∀ p, dec (enc p) = p)
    (hed : ∀ c, enc (dec c) = c) {f1 f2 : Bytes n} (h : f1 ≠ zeroBytes n ↔ f2 = zeroBytes n) (p : Bytes n) :
    xorBytes (dec (xorBytes (enc p) f1)) f2 ≠ p := by
  intro heq
  by_cases h1 : f1 = zeroBytes n
  · rw [h1, xorBytes_zero, hde, xorBytes_eq_left_iff] at heq
    exact (h.2 heq) h1
  · rw [h.1 h1, xorBytes_zero] at heq
    have hc : xorBytes (enc p) f1 = enc p := by rw [← hed (xorBytes (enc p) f1), heq]
    exact h1 (xorBytes_eq_left_iff.1 hc)

/-- Settles O50, from the exact condition of sending. -/
theorem doubleComputationContract : Obligations.DoubleComputationContract := by
  obtain ⟨haes, hdes⟩ := doubleComputationResults
  refine ⟨fun P s ht => ⟨fun h1 h2 => ?_, fun h => ⟨_, haes P s ht, ?_⟩⟩,
    fun B s ht => ⟨fun h1 h2 => ?_, fun h => ⟨_, hdes B s ht, ?_⟩⟩⟩
  · rw [haes P s ht, exec_plainCipher rfl ht]
    simp only [h1, h2, xorBytes_zero, aesDecrypt_aesEncrypt, if_true]
    rfl
  · rw [if_neg (second_result_ne (aesDecrypt_aesEncrypt 4 _) (aesEncrypt_aesDecrypt 4 _) h P)]
    simp [Effect.events]
  · rw [hdes B s ht, exec_plainCipher rfl ht]
    simp only [h1, h2, xorBytes_zero, desDecrypt_desEncrypt, if_true]
    rfl
  · rw [if_neg (second_result_ne (desDecrypt_desEncrypt _) (desEncrypt_desDecrypt _) h B)]
    simp [Effect.events]

/-! ### RSA -/

theorem rsaSfmRd_eq (delay : Nat → Nat) (key : RsaKey) (c : Nat) : rsaSfmRd delay key c = rsaSfm key c := by
  have hdelay (i r : Nat) :
      squareMultiply delay c key.d key.n i r = squareMultiply (fun _ => 0) c key.d key.n i r := by
    induction i generalizing r with
    | zero => rfl
    | succ i ih => exact ih _
  exact hdelay _ _

theorem reads_rsaSfmRd :
    ReadsRegisters fun s => rsaSfmRd (fun i => drawDelay s (bitLen s.cfg.rsa.d - 1 - i)) s.cfg.rsa := by
  intro s m x c b es
  funext v
  simp only [rsaSfmRd_eq]

/-- An operand that the statements put in the domain. -/
theorem rsaOutsideDomain_of_lt {key : RsaKey} (h : key.WF) {p : List Byte} (hk : p.length = key.k)
    (hn : beValue p < key.n) : rsaOutsideDomain key p.length (beValue p) = false := by
  have hpos := h.k_pos
  rw [Bool.eq_false_iff, ne_eq, rsaOutsideDomain_iff]
  rintro (hne | hle | rfl)
  · exact hne hk
  · omega
  · simp at hk
    omega

/-- Settles O51. -/
theorem rsaResults : Obligations.RsaResults := by
  intro len p s ht hwf hlen hk hn
  have hp : varPayloadOk len p = true := varPayloadOk_iff.2 hlen
  have hdom := rsaOutsideDomain_of_lt hwf hk hn
  refine ⟨?_, ?_, ?_⟩
  · exact rsaCmd_low _ _ (fun _ _ _ _ _ _ => rfl) (fun _ _ _ _ _ _ => rfl) len p s hp hdom ht _
      (by rw [RsaKeyWF.rsaCrt_eq hwf])
  · exact rsaCmd_low _ _ (fun _ _ _ _ _ _ => rfl) (fun _ _ _ _ _ _ => rfl) len p s hp hdom ht _
      (by rw [RsaKeyWF.rsaSfm_eq hwf])
  · exact rsaCmd_low _ _ (fun _ _ _ _ _ _ => rfl) reads_rsaSfmRd len p s hp hdom ht _
      (by rw [rsaSfmRd_eq, RsaKeyWF.rsaSfm_eq hwf])

theorem xorBytes_left_inj {n : Nat} {a b c : Bytes n} : xorBytes a b = xorBytes a c ↔ b = c := by
  constructor
  · intro h
    rw [← xorBytes_cancel b a, xorBytes_comm b, h, xorBytes_comm a, xorBytes_cancel]
  · rintro rfl
    rfl

/-- Settles O52: both methods give the same value, so the results differ as the perturbations do. -/
theorem rsaDoubleComputation : Obligations.RsaDoubleComputation := by
  intro len p s ht hwf hlen hk hn s' k A
  have hp : varPayloadOk len p = true := varPayloadOk_iff.2 hlen
  have h := rsaDoubleCmd_low (fun s => rsaCrt s.cfg.rsa) (fun s => rsaSfm s.cfg.rsa) (fun _ _ _ _ _ _ => rfl)
    (fun _ _ _ _ _ _ => rfl) len p s hp (rsaOutsideDomain_of_lt hwf hk hn) ht A
    (xorBytes (toBE k (beValue p ^ s.cfg.rsa.d % s.cfg.rsa.n)) (fault2 k s))
    (by rw [RsaKeyWF.rsaCrt_eq hwf]) (by rw [RsaKeyWF.rsaSfm_eq hwf])
  simp only [resultsAgree_iff, A, xorBytes_left_inj] at h
  exact h

/-- Settles O53. -/
theorem rsaOutsideDomainRefused : Obligations.RsaOutsideDomainRefused := by
  intro len p s hlen h
  have hp : varPayloadOk len p = true := varPayloadOk_iff.2 hlen
  have hdom : rsaOutsideDomain s.cfg.rsa p.length (beValue p) = true := rsaOutsideDomain_iff.2 h
  exact ⟨rsaCmd_outside _ _ len p s hp hdom, rsaCmd_outside _ _ len p s hp hdom, rsaCmd_outside _ _ len p s hp hdom,
    rsaDoubleCmd_outside _ _ len p s hp hdom⟩

/-! ### The password -/

theorem bytes4_eq_iff {a b : Bytes 4} : a = b ↔ a[0] = b[0] ∧ a[1] = b[1] ∧ a[2] = b[2] ∧ a[3] = b[3] := by
  constructor
  · rintro rfl
    exact ⟨rfl, rfl, rfl, rfl⟩
  · rintro ⟨h0, h1, h2, h3⟩
    ext1 i hi
    interval_cases i <;> assumption

theorem passwordBytesMatch_eq (w p : Bytes 4) (e : EnvInput) :
    passwordBytesMatch w p e = (decide (w = p) ^^ e.faultChk1) := by
  rw [passwordBytesMatch]
  congr 1
  rw [Bool.eq_iff_iff]
  simp [bytes4_eq_iff, and_assoc]

theorem word32_inj {a b : Bytes 4} : word32 a = word32 b ↔ a = b := by
  refine ⟨fun h => bytes4_eq_iff.2 ⟨?_, ?_, ?_, ?_⟩, fun h => h ▸ rfl⟩
  · simpa [word32] using congrArg (wordByte · 0) h
  · simpa [word32] using congrArg (wordByte · 1) h
  · simpa [word32] using congrArg (wordByte · 2) h
  · simpa [word32] using congrArg (wordByte · 3) h

theorem passwordWordsMatch_eq (w p : Bytes 4) (e : EnvInput) :
    passwordWordsMatch w p e = (decide (w = p) ^^ e.faultChk2) := by
  rw [passwordWordsMatch]
  congr 1
  rw [Bool.eq_iff_iff, decide_eq_true_iff, ← word32_inj, beq_iff_eq, BitVec.xor_eq_zero_iff]

theorem doubleCheck_eq (gap : Nat) (w p : Bytes 4) (e : EnvInput) :
    doubleCheck gap w p e = ((decide (w = p) ^^ e.faultChk1) && (decide (w = p) ^^ e.faultChk2)) := by
  rw [doubleCheck, nop, passwordBytesMatch_eq, passwordWordsMatch_eq]
  cases decide (w = p) ^^ e.faultChk1 <;> rfl

/-- Settles O54. -/
theorem passwordCheck : Obligations.PasswordCheck := by
  intro W s ht ok
  have hok : singleCheck W s.pwd (envInput s) = ok := passwordBytesMatch_eq W s.pwd (envInput s)
  rw [← hok]
  exact passwordCmd_low (fun w s => singleCheck w s.pwd (envInput s)) (fun _ _ _ _ _ _ _ => rfl) W s ht

/-- Settles O55. -/
theorem doublePasswordCheck : Obligations.DoublePasswordCheck := by
  intro W s ht ok1 ok2
  have hok : doubleCheck s.cfg.chkGap W s.pwd (envInput s) = (ok1 && ok2) := doubleCheck_eq _ W s.pwd (envInput s)
  rw [← hok]
  exact passwordCmd_low (fun w s => doubleCheck s.cfg.chkGap w s.pwd (envInput s)) (fun _ _ _ _ _ _ _ => rfl) W s ht

/-- Settles O56: with a wrong password each check succeeds only if it is perturbed. -/
theorem singleFaultDoesNotAuthenticate : Obligations.SingleFaultDoesNotAuthenticate := by
  intro W s ht hne hfault
  refine ⟨_, doublePasswordCheck W s ht, ?_⟩
  have hno : ((envInput s).faultChk1 && (envInput s).faultChk2) = false := by simpa using hfault
  simp [hne, hno, Effect.events]

end Sys2Proof.Machine
end

section
/-! Pairs of runs: the round trip of a block through an encryption and a decryption command (42_aes_commands.md rule
R206, 44_des_tdes.md rule R256, 45_sm4.md rule R294), and the same command run from two states, which differ in what
the command does not read (10_state.md rules R30, R33, R42). -/

namespace Sys2Proof.Machine

/-! ### The round trip on the wire -/

/-- A cipher command that nothing hinders has one window and answers the value of its cipher. -/
theorem exec_unhindered {i : Instr} {s : State} (hi : outputLen i ≠ 0) (ht : s.trig = false) (hu : unhindered i s) :
    ∃ draws, exec i s = .next (completed s (blockEffect s ((encode i).drop 1) (cipherOutput i s) draws)) := by
  obtain ⟨hhw, hdc⟩ := hu
  by_cases h1 : isHardwareBacked i = true
  · exact ⟨1, exec_hardware_answers h1 ht (hhw h1)⟩
  by_cases h2 : isDoubleComputation i = true
  · have hquiet := hdc h2
    cases i with
    | aes128EncDc p =>
      exact ⟨0, ((doubleComputationContract.1 p s ht).1 (hquiet 16).1 (hquiet 16).2).trans (exec_plainCipher rfl ht)⟩
    | desEncDc b =>
      exact ⟨0, ((doubleComputationContract.2 b s ht).1 (hquiet 8).1 (hquiet 8).2).trans (exec_plainCipher rfl ht)⟩
    | rsacrtDc => exact absurd rfl hi
    | _ => cases h2
  · exact ⟨cipherDraws i, exec_plainCipher (by simp [isPlainCipher, hi, h1, h2]) ht⟩

theorem answers_of_completed {i : Instr} {s : State} {out : List Byte} {draws : Nat}
    (h : exec i s = .next (completed s (blockEffect s ((encode i).drop 1) out draws))) :
    Answers i s out (completed s (blockEffect s ((encode i).drop 1) out draws)) :=
  ⟨h, by simp [blockEffect, Effect.events]⟩

/-- A cipher reads key registers only, which no cipher command writes. -/
theorem cipherOutput_completed (i : Instr) (s : State) (e : Effect) :
    cipherOutput i (completed s e) = cipherOutput i s := by
  cases i <;> simp only [cipherOutput, completed_keyAes128, completed_keyAes256, completed_keyDes, completed_keyTdes,
    completed_keySm4, completed_rk256]

/-- The commands `encrypt` all compute the block `c`, and the commands `decrypt` of `c` all compute `b`. -/
theorem roundTrips_of_outputs {n : Nat} {s : State} (ht : s.trig = false) {b : Bytes n} {encrypt : List Instr}
    {decrypt : Bytes n → List Instr} (c : Bytes n)
    (henc : ∀ i ∈ encrypt, outputLen i ≠ 0 ∧ cipherOutput i s = c.toList)
    (hdec : ∀ j ∈ decrypt c, outputLen j ≠ 0 ∧ cipherOutput j s = b.toList) : RoundTrips s b encrypt decrypt := by
  intro i hi hu
  obtain ⟨hlen, hout⟩ := henc i hi
  obtain ⟨draws, hexec⟩ := exec_unhindered hlen ht hu
  rw [hout] at hexec
  refine ⟨_, c, answers_of_completed hexec, fun j hj hu' => ?_⟩
  obtain ⟨hlen', hout'⟩ := hdec j hj
  obtain ⟨draws', hexec'⟩ := exec_unhindered (s := completed _ _) hlen' (by simpa using ht) hu'
  rw [cipherOutput_completed, hout'] at hexec'
  exact ⟨_, answers_of_completed hexec'⟩

theorem firstHalf_append (p m : Block) :
    (Vector.ofFn fun i : Fin 16 => (p ++ m : Bytes 32)[i.val]'(by omega)) = p := by
  ext1 i hi
  rw [Vector.getElem_ofFn]
  exact Vector.getElem_append_left hi

/-- Settles O60: the forms of each cipher compute the two functions that undo each other. -/
theorem roundTripOnTheWire : Obligations.RoundTripOnTheWire := by
  intro s ht
  refine ⟨fun P M => ?_, fun hs P => ?_, fun B => ?_, fun B => ?_, fun B => ?_⟩
  · refine roundTrips_of_outputs ht (aesEncrypt 4 s.keyAes128 P) ?_ ?_
    · simp [aes128Encryptions, outputLen, cipherOutput, firstHalf_append]
    · simp [aes128Decryptions, outputLen, cipherOutput, aesDecrypt_aesEncrypt 4]
  · refine roundTrips_of_outputs ht (aesEncrypt 8 s.keyAes256 P) ?_ ?_
    · simp [aes256Encryptions, outputLen, cipherOutput, unpackSchedule_eq hs, aesEncrypt]
    · have hdec : aesInvCipher (aesKeyExpansion 8 s.keyAes256) (aesEncrypt 8 s.keyAes256 P) = P :=
        aesDecrypt_aesEncrypt 8 s.keyAes256 P
      simp [aes256Decryptions, outputLen, cipherOutput, unpackSchedule_eq hs, hdec, aesDecrypt_aesEncrypt 8]
  · refine roundTrips_of_outputs ht (desEncrypt s.keyDes B) ?_ ?_
    · simp [desEncryptions, outputLen, cipherOutput]
    · simp [desDecryptions, outputLen, cipherOutput, desDecrypt_desEncrypt]
  · refine roundTrips_of_outputs ht (tdesEncrypt s.keyTdes B) ?_ ?_
    · simp [tdesEncryptions, outputLen, cipherOutput]
    · simp [tdesDecryptions, outputLen, cipherOutput, tdesDecrypt_tdesEncrypt]
  · refine roundTrips_of_outputs ht (sm4Encrypt s.keySm4 B) ?_ ?_
    · simp [sm4Encryptions, outputLen, cipherOutput]
    · simp [sm4Decryptions, outputLen, cipherOutput, sm4Decrypt_sm4Encrypt]

/-! ### The same command from two states -/

/-- The regions of the scratch buffer that a command writes: its payload's and its output's. -/
def inRegions (i : Instr) (a : Nat) : Prop :=
  (Config.inOff ≤ a ∧ a < Config.inOff + payloadLen i) ∨ (Config.outOff ≤ a ∧ a < Config.outOff + outputLen i)

/-- A change of the scratch buffer that writes the regions of `i`, with bytes that do not depend on what was there, and
nothing else. -/
def StoresRegions (i : Instr) (store : Memory → Memory) : Prop :=
  ∀ m m' a, (inRegions i a → memByte (store m') a = memByte (store m) a) ∧
    (¬ inRegions i a → memByte (store m') a = memByte m' a)

/-- Two states between which a command cannot tell, but for draws, session flags and the scratch buffer. -/
structure SameInputs (s s' : State) : Prop where
  keyDes : s'.keyDes = s.keyDes
  keyTdes : s'.keyTdes = s.keyTdes
  keyAes128 : s'.keyAes128 = s.keyAes128
  keyAes256 : s'.keyAes256 = s.keyAes256
  keySm4 : s'.keySm4 = s.keySm4
  pwd : s'.pwd = s.pwd
  rk256 : s'.rk256 = s.rk256
  trig : s'.trig = s.trig
  cfg : s'.cfg = s.cfg
  env : s'.env = s.env

/-- Two runs of a command that go the same way: with the same effect but for what the scratch buffer held before. -/
inductive Alike (i : Instr) (s s' : State) : Res → Res → Prop where
  | done (received : List Byte) (store : Memory → Memory) (window : Bool) (sent : List Byte) (draws : Nat)
    (hstore : StoresRegions i store) :
    Alike i s s' (.next (completed (written i s) ⟨received, store s.scr, window, sent, draws⟩))
      (.next (completed (written i s') ⟨received, store s'.scr, window, sent, draws⟩))
  | survived (hi : runsScenario s.cfg i = true) :
    Alike i s s' (.next (scenarioSurvived (opcodeOf i) s)) (.next (scenarioSurvived (opcodeOf i) s'))
  | crashed (hi : runsScenario s.cfg i = true) :
    Alike i s s' (.next (scenarioCrashed s)) (.next (scenarioCrashed s'))
  | refused (x : Refusal) : Alike i s s' (.refused x) (.refused x)
  | fault (x : Fault) : Alike i s s' (.fault x) (.fault x)

/-! ### What the shapes store -/

theorem storesRegions_block {i : Instr} {p out : List Byte} (hp : p.length = payloadLen i)
    (ho : out.length = outputLen i) : StoresRegions i (blockScratch · p out) := by
  intro m m' a
  simp only [blockScratch, memByte_storeBytes, inRegions, hp, ho]
  refine ⟨fun h => ?_, fun h => ?_⟩
  · split_ifs with h1 h2
    · rfl
    · rfl
    · exact (h.elim h2 h1).elim
  · rw [not_or] at h
    rw [if_neg h.2, if_neg h.1]

/-- A write of the payload region, and of a result of the same length over it. -/
theorem storesRegions_over {i : Instr} {p out : List Byte} (hp : p.length = payloadLen i)
    (ho : out.length = payloadLen i) (hno : outputLen i = 0) :
    StoresRegions i fun m => storeBytes (storeBytes m Config.inOff p) Config.inOff out := by
  intro m m' a
  simp only [memByte_storeBytes, inRegions, hp, ho, hno]
  refine ⟨fun h => ?_, fun h => ?_⟩
  · rw [if_pos (by omega), if_pos (by omega)]
  · rw [if_neg (by omega), if_neg (by omega)]

theorem storesRegions_payload {i : Instr} {p : List Byte} (hp : p.length = payloadLen i) (hno : outputLen i = 0) :
    StoresRegions i (storeBytes · Config.inOff p) := by
  intro m m' a
  simp only [memByte_storeBytes, inRegions, hp, hno]
  refine ⟨fun h => ?_, fun h => ?_⟩
  · rw [if_pos (by omega), if_pos (by omega)]
  · rw [if_neg (by omega)]

theorem outputLen_of_bare {i : Instr} (h : isBareOpcode i = true) : outputLen i = 0 := by
  cases i <;> first | rfl | cases h

theorem not_inRegions_of_bare {i : Instr} (h : isBareOpcode i = true) (a : Nat) : ¬ inRegions i a := by
  simp only [inRegions, payloadLen_of_bare h, outputLen_of_bare h]
  omega

theorem storesRegions_bare {i : Instr} (h : isBareOpcode i = true) : StoresRegions i id :=
  fun _ _ a => ⟨fun ha => absurd ha (not_inRegions_of_bare h a), fun _ => rfl⟩

/-! ### The commands, shape by shape -/

section
variable {i : Instr} {s s' : State} (h : SameInputs s s')
include h

theorem SameInputs.envInput_eq : envInput s' = envInput s := by simp only [envInput, h.env]

theorem SameInputs.cipherOutput_eq (i : Instr) : cipherOutput i s' = cipherOutput i s := by
  cases i <;> simp only [cipherOutput, h.keyAes128, h.keyAes256, h.keyDes, h.keyTdes, h.keySm4, h.rk256]

theorem SameInputs.fault1_eq (n : Nat) : fault1 n s' = fault1 n s := by simp only [fault1, h.envInput_eq]
theorem SameInputs.fault2_eq (n : Nat) : fault2 n s' = fault2 n s := by simp only [fault2, h.envInput_eq]

end

theorem length_payload {i : Instr} (hw : i.wf = true) (h : isRsa i = false) :
    ((encode i).drop 1).length = payloadLen i := by
  have hlen : payloadLen i = frameLen i - 1 := by cases i <;> first | rfl | cases h
  rw [hlen, List.length_drop, encode_length hw]

theorem written_of_outputLen {i : Instr} (h : outputLen i ≠ 0) (s : State) : written i s = s := by
  cases i <;> first | rfl | exact absurd rfl h

theorem wf_of_outputLen {i : Instr} (h : outputLen i ≠ 0) : i.wf = true ∧ isRsa i = false := by
  cases i <;> first | exact ⟨rfl, rfl⟩ | exact absurd rfl h

/-- Two completed block commands with the same answer. -/
theorem alike_block {i : Instr} (hi : outputLen i ≠ 0) (s s' : State) {out : List Byte} (ho : out.length = outputLen i)
    (window : Bool) (sent : List Byte) (draws : Nat) :
    Alike i s s'
      (.next (completed s ⟨(encode i).drop 1, blockScratch s.scr ((encode i).drop 1) out, window, sent, draws⟩))
      (.next (completed s' ⟨(encode i).drop 1, blockScratch s'.scr ((encode i).drop 1) out, window, sent, draws⟩)) := by
  obtain ⟨hw, hrsa⟩ := wf_of_outputLen hi
  have hd := Alike.done (s := s) (s' := s') ((encode i).drop 1) _ window sent draws
    (storesRegions_block (length_payload hw hrsa) ho)
  rwa [written_of_outputLen hi, written_of_outputLen hi] at hd

/-- With the trigger line high, a cipher command that answers always faults. -/
theorem exec_plainCipher_high {i : Instr} (hi : isPlainCipher i = true) {s : State} (ht : s.trig = true) :
    exec i s = .fault .trigBeginWhileHigh := by
  cases i with
  | aes128EncMt p =>
    exact preparedCmd_high 6 (fun s => mtPrepare 4 s.keyAes128 (drawMasks s)) mtEncrypt p s (by decide) ht
  | aes256EncMt p =>
    exact preparedCmd_high 6 (fun s => mtPrepare 8 s.keyAes256 (drawMasks s)) mtEncrypt p s (by decide) ht
  | aes128EncMb p =>
    exact preparedCmd_high 1 (fun s => (s.keyAes128, drawMaskBlock s)) (fun km p => aesMaskedBefore 4 km.1 p km.2) p s
      (by decide) ht
  | aes256EncMb p =>
    exact preparedCmd_high 1 (fun s => (s.keyAes256, drawMaskBlock s)) (fun km p => aesMaskedBefore 8 km.1 p km.2) p s
      (by decide) ht
  | aes128Enc p | aes128Dec p | aes128EncTbl p | aes128DecTbl p | aes128EncMtp p | aes128EncMbx p | aes128EncRd p
  | aes128EncRs p | aes128EncMa p | aes256Enc p | aes256Dec p | desEnc p | desDec p | desEncRd p | desEncRs p
  | desEncMa p | tdesEnc p | tdesDec p | sm4Enc p | sm4Dec p | sm4EncRd p =>
    exact blockCmd_high _ _ p s (by decide) ht
  | _ => cases hi

theorem exec_hardware_high {i : Instr} (hi : isHardwareBacked i = true) {s : State} (ht : s.trig = true)
    (ha : accelerates s = true) : exec i s = .fault .trigBeginWhileHigh := by
  cases i with
  | aes128EncHw p | aes128DecHw p | aes256EncHw p | aes256DecHw p | tdesEncHw p | tdesDecHw p =>
    exact hwCmd_high _ p s (by decide) ht ha
  | _ => cases hi

section
variable {i : Instr} {s s' : State}

theorem alike_plainCipher (h : SameInputs s s') (hi : isPlainCipher i = true) :
    Alike i s s' (exec i s) (exec i s') := by
  have hlen : outputLen i ≠ 0 := by
    simp only [isPlainCipher, Bool.and_eq_true, bne_iff_ne] at hi
    exact hi.1.1
  cases ht : s.trig with
  | false =>
    rw [exec_plainCipher hi ht, exec_plainCipher hi (h.trig.trans ht), h.cipherOutput_eq]
    exact alike_block hlen s s' (length_cipherOutput i s) _ _ _
  | true =>
    rw [exec_plainCipher_high hi ht, exec_plainCipher_high hi (h.trig.trans ht)]
    exact .fault _

theorem alike_hardware (h : SameInputs s s') (hi : isHardwareBacked i = true) (hdraw : drawBool s' 0 = drawBool s 0) :
    Alike i s s' (exec i s) (exec i s') := by
  have hlen : outputLen i ≠ 0 := by cases i <;> first | exact Nat.succ_ne_zero _ | cases hi
  have hacc : accelerates s' = accelerates s := by simp only [accelerates, h.cfg, hdraw]
  cases ha : accelerates s with
  | false =>
    have hasked : hwDraws s' = hwDraws s := by simp only [hwDraws, h.cfg]
    rw [exec_hardware_unavailable hi ha, exec_hardware_unavailable hi (hacc.trans ha), hasked]
    exact alike_block hlen s s' List.length_replicate _ _ _
  | true =>
    cases ht : s.trig with
    | false =>
      rw [exec_hardware_answers hi ht ha, exec_hardware_answers hi (h.trig.trans ht) (hacc.trans ha), h.cipherOutput_eq]
      exact alike_block hlen s s' (length_cipherOutput i s) _ _ _
    | true =>
      rw [exec_hardware_high hi ht ha, exec_hardware_high hi (h.trig.trans ht) (hacc.trans ha)]
      exact .fault _

theorem alike_keyChange (hi : isKeyChange i = true) : Alike i s s' (exec i s) (exec i s') := by
  have hno : outputLen i = 0 := by cases i <;> first | rfl | cases hi
  have hwf : i.wf = true ∧ isRsa i = false := by cases i <;> first | exact ⟨rfl, rfl⟩ | cases hi
  rw [exec_keyChange hi s, exec_keyChange hi s']
  exact .done _ _ _ _ _ (storesRegions_payload (length_payload hwf.1 hwf.2) hno)

theorem alike_doubleCmd (h : SameInputs s s') {n : Nat} (first second : State → Bytes n → Bytes n)
    (h1 : ReadsRegisters first) (h2 : ReadsRegisters second) {p : Bytes n} (hp : (encode i).drop 1 = p.toList)
    (hi : outputLen i ≠ 0) (ho : outputLen i = n) (hn : Config.outOff + n ≤ Config.scrCap) (hfirst : first s' = first s)
    (hsecond : second s' = second s) : Alike i s s' (doubleCmd first second p s) (doubleCmd first second p s') := by
  cases ht : s.trig with
  | false =>
    rw [doubleCmd_low first second h1 h2 p _ _ s hn ht rfl rfl,
      doubleCmd_low first second h1 h2 p _ _ s' hn (h.trig.trans ht) rfl rfl, hfirst, hsecond, h.fault1_eq,
      h.fault2_eq, ← hp]
    exact alike_block hi s s' (by rw [Vector.length_toList, ho]) _ _ _
  | true =>
    have hn' : n ≤ Config.scrCap := by omega
    rw [doubleCmd_high first second p s hn' ht, doubleCmd_high first second p s' hn' (h.trig.trans ht)]
    exact .fault _

/-- The operand of a well-formed RSA command is its payload region, and the result lies over it. -/
theorem alike_rsaEffect {len : BitVec 16} {p : List Byte}
    (hwritten : ∀ u, written i u = withPlen (BitVec.ofNat 16 p.length) u)
    (hp : p.length = payloadLen i) (hno : outputLen i = 0) {k : Nat} (hk : p.length = k) (out : Bytes k)
    (sent : List Byte) (draws : Nat) :
    Alike i s s' (.next (completed (withPlen (BitVec.ofNat 16 p.length) s) (rsaEffect s len p out.toList sent draws)))
      (.next (completed (withPlen (BitVec.ofNat 16 p.length) s') (rsaEffect s' len p out.toList sent draws))) := by
  have hout : out.toList.length = payloadLen i := by rw [Vector.length_toList, ← hk, hp]
  have hd := Alike.done (s := s) (s' := s') (varReceived len p) _ true sent draws (storesRegions_over hp hout hno)
  rwa [hwritten, hwritten] at hd

theorem alike_rsaCmd (h : SameInputs s s') {draws : State → Nat} {compute : State → Nat → Nat}
    (hd : ReadsRegisters draws) (hc : ReadsRegisters compute) {len : BitVec 16} {p : List Byte}
    (hp : varPayloadOk len p = true) (hdraws : draws s' = draws s) (hcompute : compute s' = compute s)
    (hwritten : ∀ u, written i u = withPlen (BitVec.ofNat 16 (min len.toNat Config.scrCap)) u)
    (hlen : payloadLen i = min len.toNat Config.scrCap) (hno : outputLen i = 0) :
    Alike i s s' (rsaCmd draws compute len p s) (rsaCmd draws compute len p s') := by
  have hl := varPayloadOk_iff.1 hp
  rw [← hl] at hwritten hlen
  cases hdom : rsaOutsideDomain s.cfg.rsa p.length (beValue p) with
  | true =>
    rw [rsaCmd_outside draws compute len p s hp hdom, rsaCmd_outside draws compute len p s' hp (h.cfg ▸ hdom)]
    exact .refused _
  | false =>
    have hdom' : rsaOutsideDomain s'.cfg.rsa p.length (beValue p) = false := h.cfg ▸ hdom
    cases ht : s.trig with
    | false =>
      have hout : (toBE s'.cfg.rsa.k (compute s' (beValue p))).toList =
          (toBE s.cfg.rsa.k (compute s (beValue p))).toList := by
        rw [h.cfg, hcompute]
      rw [rsaCmd_low draws compute hd hc len p s hp hdom ht _ rfl,
        rsaCmd_low draws compute hd hc len p s' hp hdom' (h.trig.trans ht) _ rfl, hout, hdraws]
      exact alike_rsaEffect hwritten hlen.symm hno (rsaOutsideDomain_eq_false hdom).1 _ _ _
    | true =>
      rw [rsaCmd_high draws compute len p s hp hdom ht, rsaCmd_high draws compute len p s' hp hdom' (h.trig.trans ht)]
      exact .fault _

/-- The double computation of RSA on an operand of the domain, with the key and the perturbations read from a state. -/
theorem exec_rsaDouble_low {len : BitVec 16} {p : List Byte} (hp : varPayloadOk len p = true) {u : State} {key : RsaKey}
    (hkey : u.cfg.rsa = key) (hdom : rsaOutsideDomain key p.length (beValue p) = false) (ht : u.trig = false)
    {f1 f2 : Bytes key.k} (h1 : fault1 key.k u = f1) (h2 : fault2 key.k u = f2) :
    exec (.rsacrtDc len p) u = .next (completed (withPlen (BitVec.ofNat 16 p.length) u)
      (rsaEffect u len p (xorBytes (toBE key.k (rsaCrt key (beValue p))) f1).toList
        (if resultsAgree (xorBytes (toBE key.k (rsaCrt key (beValue p))) f1)
            (xorBytes (toBE key.k (rsaSfm key (beValue p))) f2) then
          (xorBytes (toBE key.k (rsaCrt key (beValue p))) f1).toList else []) 0)) := by
  subst hkey h1 h2
  exact rsaDoubleCmd_low (fun s => rsaCrt s.cfg.rsa) (fun s => rsaSfm s.cfg.rsa) (fun _ _ _ _ _ _ => rfl)
    (fun _ _ _ _ _ _ => rfl) len p u hp hdom ht _ _ rfl rfl

theorem alike_rsaDouble (h : SameInputs s s') {len : BitVec 16} {p : List Byte} (hp : varPayloadOk len p = true) :
    Alike (.rsacrtDc len p) s s' (exec (.rsacrtDc len p) s) (exec (.rsacrtDc len p) s') := by
  have hl := varPayloadOk_iff.1 hp
  cases hdom : rsaOutsideDomain s.cfg.rsa p.length (beValue p) with
  | true =>
    have hout {u : State} (hu : rsaOutsideDomain u.cfg.rsa p.length (beValue p) = true) :
        exec (.rsacrtDc len p) u = .refused .rsaOperandOutsideDomain := rsaDoubleCmd_outside _ _ len p u hp hu
    rw [hout hdom, hout (h.cfg ▸ hdom)]
    exact .refused _
  | false =>
    have hdom' : rsaOutsideDomain s'.cfg.rsa p.length (beValue p) = false := h.cfg ▸ hdom
    cases ht : s.trig with
    | false =>
      rw [exec_rsaDouble_low hp rfl hdom ht rfl rfl, exec_rsaDouble_low hp (congrArg Config.rsa h.cfg) hdom
        (h.trig.trans ht) (h.fault1_eq _) (h.fault2_eq _)]
      exact alike_rsaEffect (fun u => by rw [hl]; rfl) hl rfl (rsaOutsideDomain_eq_false hdom).1 _ _ _
    | true =>
      have hhigh {u : State} (hu : rsaOutsideDomain u.cfg.rsa p.length (beValue p) = false) (htu : u.trig = true) :
          exec (.rsacrtDc len p) u = .fault .trigBeginWhileHigh := rsaDoubleCmd_high _ _ len p u hp hu htu
      rw [hhigh hdom ht, hhigh hdom' (h.trig.trans ht)]
      exact .fault _

theorem alike_passwordCmd (h : SameInputs s s') {check : Bytes 4 → State → Bool} (hc : ∀ w, ReadsRegisters (check w))
    {p : Bytes 4} (hcheck : check p s' = check p s) (hwritten : ∀ u, written i u = withAuth (check p u) u)
    (hp : payloadLen i = 4) (hno : outputLen i = 0) :
    Alike i s s' (passwordCmd check p s) (passwordCmd check p s') := by
  cases ht : s.trig with
  | false =>
    rw [passwordCmd_low check hc p s ht, passwordCmd_low check hc p s' (h.trig.trans ht), ← hwritten, ← hwritten, hcheck,
      h.cfg]
    exact .done _ _ _ _ _ (storesRegions_payload (by rw [Vector.length_toList, hp]) hno)
  | true =>
    rw [passwordCmd_high check p s ht, passwordCmd_high check p s' (h.trig.trans ht)]
    exact .fault _

theorem alike_bare (h : SameInputs s s') (hi : isBareOpcode i = true)
    (hdraw : runsScenario s.cfg i = true → drawBool s' 0 = drawBool s 0)
    (hflags : isUnknown s.cfg i = true → s'.glitched = s.glitched ∧ s'.auth = s.auth) :
    Alike i s s' (exec i s) (exec i s') := by
  rw [exec_bare hi, exec_bare hi]
  cases hf : s.cfg.fiOpcodes.contains (opcodeOf i) with
  | true =>
    have hrun : runsScenario s.cfg i = true := by simp only [runsScenario, hi, hf, Bool.and_self]
    rw [otherOpcode_scenario _ _ hf, otherOpcode_scenario _ _ (h.cfg ▸ hf)]
    cases ht : s.trig with
    | true =>
      rw [catalogueCmd_high _ s ht, catalogueCmd_high _ s' (h.trig.trans ht)]
      exact .fault _
    | false =>
      cases hb : drawBool s 0 with
      | true =>
        rw [catalogueCmd_survives _ s hb ht, catalogueCmd_survives _ s' ((hdraw hrun).trans hb) (h.trig.trans ht)]
        exact .survived hrun
      | false =>
        rw [catalogueCmd_crashes _ s hb ht, catalogueCmd_crashes _ s' ((hdraw hrun).trans hb) (h.trig.trans ht)]
        exact .crashed hrun
  | false =>
    cases he : s.cfg.extOpcodes.contains (opcodeOf i) with
    | true =>
      rw [otherOpcode_external _ _ hf he, otherOpcode_external _ _ (h.cfg ▸ hf) (h.cfg ▸ he)]
      exact .refused _
    | false =>
      obtain ⟨hg, ha⟩ := hflags (by simp only [isUnknown, hi, hf, he, Bool.not_false, Bool.and_self])
      rw [otherOpcode_unknown _ _ hf he, otherOpcode_unknown _ _ (h.cfg ▸ hf) (h.cfg ▸ he), unknownOpcode_eq,
        unknownOpcode_eq, h.cfg, hg, ha]
      have hd := Alike.done (s := s) (s' := s') [] id false (unknownResponse s.cfg s.glitched s.auth) 0
        (storesRegions_bare hi)
      rwa [written_of_bare hi, written_of_bare hi] at hd

/-- A command goes the same way from two states with the same inputs, where the accelerator's verdict and the outcome of a
scenario are drawn alike and the session flags are alike for an unknown opcode. -/
theorem exec_alike (hw : i.wf = true) (h : SameInputs s s')
    (hdraw : isHardwareBacked i = true ∨ runsScenario s.cfg i = true → drawBool s' 0 = drawBool s 0)
    (hflags : isUnknown s.cfg i = true → s'.glitched = s.glitched ∧ s'.auth = s.auth) :
    Alike i s s' (exec i s) (exec i s') := by
  cases i with
  | desKey | tdesKey | aes128Key | aes256Key | sm4Key | pwdSet => exact alike_keyChange rfl
  | aes128EncHw | aes128DecHw | aes256EncHw | aes256DecHw | tdesEncHw | tdesDecHw =>
    exact alike_hardware h rfl (hdraw (.inl rfl))
  | aes128EncDc p =>
    exact alike_doubleCmd h (fun s => aesEncrypt 4 s.keyAes128) (fun s => aesInvCipherTbl 4 s.keyAes128)
      (fun _ _ _ _ _ _ => rfl) (fun _ _ _ _ _ _ => rfl) rfl nofun rfl (by decide) (by rw [h.keyAes128])
      (by rw [h.keyAes128])
  | desEncDc b =>
    exact alike_doubleCmd h (fun s => desEncrypt s.keyDes) (fun s => desDecrypt s.keyDes)
      (fun _ _ _ _ _ _ => rfl) (fun _ _ _ _ _ _ => rfl) rfl nofun rfl (by decide) (by rw [h.keyDes]) (by rw [h.keyDes])
  | rsacrt len p =>
    exact alike_rsaCmd h (fun _ _ _ _ _ _ => rfl) (fun _ _ _ _ _ _ => rfl) hw rfl (by rw [h.cfg]) (fun _ => rfl) rfl rfl
  | rsasfm len p =>
    exact alike_rsaCmd h (fun _ _ _ _ _ _ => rfl) (fun _ _ _ _ _ _ => rfl) hw rfl (by rw [h.cfg]) (fun _ => rfl) rfl rfl
  | rsasfmRd len p =>
    exact alike_rsaCmd h (fun _ _ _ _ _ _ => rfl) reads_rsaSfmRd hw (by rw [h.cfg])
      (by funext c; simp only [rsaSfmRd_eq, h.cfg]) (fun _ => rfl) rfl rfl
  | rsacrtDc len p => exact alike_rsaDouble h hw
  | pwdChk1 w =>
    exact alike_passwordCmd h (fun _ _ _ _ _ _ _ => rfl) (by rw [h.pwd, h.envInput_eq]) (fun _ => rfl) rfl rfl
  | pwdChk2 w =>
    exact alike_passwordCmd h (fun _ _ _ _ _ _ _ => rfl) (by rw [h.pwd, h.envInput_eq, h.cfg]) (fun _ => rfl) rfl rfl
  | fi0 | fi1 | fi2 | fi3 | fi4 | fi5 | fi6 | fi7 | fi8 | fi9 | fi10 | fi11 | fi12 | fi13 | fi14 | fi15 | unknown =>
    exact alike_bare h rfl (fun hrun => hdraw (.inr hrun)) hflags
  | _ => exact alike_plainCipher h rfl

end

/-! ### The statements -/

theorem written_withFlags {i : Instr} (hi : isPasswordCommand i = false) (s : State) (a g : Bool) :
    written i { s with auth := a, glitched := g } = { written i s with auth := a, glitched := g } := by
  cases i <;> first | rfl | cases hi

/-- Settles O23. -/
theorem flagsGateNothingElse : Obligations.FlagsGateNothingElse := by
  intro i s a g hw hpwd hunknown
  have halike := exec_alike (s := s) (s' := { s with auth := a, glitched := g }) hw
    ⟨rfl, rfl, rfl, rfl, rfl, rfl, rfl, rfl, rfl, rfl⟩ (fun _ => rfl) (fun h => by simp [hunknown] at h)
  generalize exec i s = r, exec i { s with auth := a, glitched := g } = r' at halike ⊢
  cases halike with
  | done => rw [written_withFlags hpwd]; rfl
  | survived | crashed | refused | fault => rfl

theorem written_withScr (i : Instr) (s : State) (m : Memory) :
    written i { s with scr := m } = { written i s with scr := m } := by cases i <;> rfl

/-- Settles O24. -/
theorem noStaleScratch : Obligations.NoStaleScratch := by
  intro i s t m hw h
  have halike := exec_alike (s := s) (s' := { s with scr := m }) hw
    ⟨rfl, rfl, rfl, rfl, rfl, rfl, rfl, rfl, rfl, rfl⟩ (fun _ => rfl) (fun _ => ⟨rfl, rfl⟩)
  rw [h] at halike
  generalize exec i { s with scr := m } = r' at halike ⊢
  cases halike with
  | done received store window sent draws hstore =>
    refine ⟨store m, by rw [written_withScr]; rfl, fun a => ?_⟩
    by_cases ha : inRegions i a
    · exact ((hstore s.scr m a).1 ha).trans (if_pos ha).symm
    · exact ((hstore s.scr m a).2 ha).trans (if_neg ha).symm
  | survived hi | crashed hi =>
    refine ⟨m, rfl, fun a => ?_⟩
    exact (if_neg (not_inRegions_of_bare (runsScenario_iff.1 hi).1 a)).symm

theorem written_withDraws (i : Instr) (s : State) (draws : List Nat) (ix : Nat) :
    written i { s with draws := draws, drawIx := ix } = { written i s with draws := draws, drawIx := ix } := by
  cases i <;> rfl

/-- Settles O25. -/
theorem drawsDoNotShow : Obligations.DrawsDoNotShow := by
  intro i s t draws ix hw hhw hrun h
  have halike := exec_alike (s := s) (s' := { s with draws := draws, drawIx := ix }) hw
    ⟨rfl, rfl, rfl, rfl, rfl, rfl, rfl, rfl, rfl, rfl⟩ (fun h => by simp [hhw, hrun] at h) (fun _ => ⟨rfl, rfl⟩)
  rw [h] at halike
  generalize exec i { s with draws := draws, drawIx := ix } = r' at halike ⊢
  cases halike with
  | done received store window sent n =>
    refine ⟨draws.drop n, ix + n, ?_⟩
    rw [written_withDraws]
    rfl
  | survived hi => simp [hi] at hrun
  | crashed hi => simp [hi] at hrun

end Sys2Proof.Machine
end
